-- ==== Sys2Proof/Word.lean ====
section
/-!
DEFINITION. The words of the block: the byte of the serial stream, `units` and the frame words.
A time is no such word: its width `TS_W` is an argument of the model (R8), so it is a natural number below `2^TS_W`
(`Config.tsW`).
Bit 0 is the least significant bit of every word (rule R10).
-/
namespace Sys2Proof

/-- A byte: 8 bits (R10). -/
abbrev Byte := BitVec 8

/-- The 16-bit `units` field of a Layout B frame (R73). -/
abbrev Units16 := BitVec 16

/-- The frame word of a Layout A frame: 24 bits, byte 0 in the most significant place (R91, R92). -/
abbrev FrameA := BitVec 24

/-- The frame word of a Layout B frame: 32 bits, byte 0 in the most significant place (R91, R93). -/
abbrev FrameB := BitVec 32

end Sys2Proof
end

