-- ==== Sys2Proof/Names.lean ====
section
/-!
DEFINITION. The fixed sets of names that operands and registers use: motor channels, steering commands, ultrasonic
channel numbers, and the five readings of a snapshot.
-/
namespace Sys2Proof

/-- A motor channel: 0 is the left motor and 1 the right one (R22; D16). -/
inductive Channel where
  | left
  | right
deriving DecidableEq, Repr

/-- SDX's SteeringCommand, "enum {Forward, Left, Right, Stop}" (R15): what RM returns and APPLY takes (R200, R223). -/
inductive SteeringCommand where
  | stop
  | forward
  | left
  | right
deriving DecidableEq, Repr

/-- The number of an ultrasonic channel, 0 to 4 (`N_US` = 5, R8). -/
abbrev Us := Fin 5

/-- `CENTER`, the index of the centre sensor (R8). -/
abbrev center : Us := 2

/-- Five round-trip times, one per ultrasonic channel: what PT.SNAPSHOT returns (R188). -/
abbrev Readings := Vector Nat 5

/-- Five one-bit levels, one per ultrasonic channel (`ECHO`, `TRIG`, `SYNC1`, `SYNC2`, `ECHO_Q`). -/
abbrev Levels := Vector Bool 5

end Sys2Proof
end

