-- ==== Sys2Proof/Config.lean ====
section
/-!
DEFINITION. The build parameters of rule R8, the constraints of rule R9, and the free values: what the spec leaves open.
A build's parameters are plain data that no operation writes (R51), so every statement about a state holds for every build.
-/
namespace Sys2Proof

/-- `PROFILE`: Layout A frames, Layout B frames, or single teleoperation characters (R3). -/
inductive Profile where
  | layoutA
  | layoutB
  | teleop
deriving DecidableEq, Repr

/-- `ROAM_POLICY` (R8). `corrected` is the variant SDX allows and does not define: a configuration with it is refused
(R203). -/
inductive RoamPolicy where
  | parity
  | corrected
deriving DecidableEq, Repr

/-- `BAUD`, the line rate of the external UART (R8): outside the block, so no operation reads it (R255). -/
inductive Baud where
  | b9600
  | b115200
deriving DecidableEq, Repr

/-- Which of the spec's two models of time the run follows: the timed one (R249), or the untimed one, which drops every
time condition (R259, R283). -/
inductive Timing where
  | timed
  | untimed
deriving DecidableEq, Repr

/-- The parameters of a build (R8). Times are in ticks (`TICK` = 1 microsecond). -/
structure Config where
  /-- `PROFILE` -/
  profile : Profile
  /-- `RX_DEPTH`, bytes the receive FIFO holds -/
  rxDepth : Nat
  /-- `UNITS_LE`, byte order of Layout B `units` (R73) -/
  unitsLE : Bool
  /-- `LA_CHECK_TERM`, whether Layout A checks its terminator (R122) -/
  laCheckTerm : Bool
  /-- `STOPALL_RETRACTS`, whether MD.STOPALL also deasserts the gun (R156) -/
  stopallRetracts : Bool
  /-- `EN_HOLD_LEVEL`, level of the enable pin of a held channel (R48) -/
  enHoldLevel : Bool
  /-- `ROAM_POLICY` -/
  roamPolicy : RoamPolicy
  /-- `TS_W`, width of timestamps and round-trip times, default 32 (D4). A time is a natural number below `2^TS_W`, every
  difference of two taken modulo it (R10, R26): the operations of Machine/Ops.lean reduce by it, and that every time of a state
  stays below it is part of the invariant of Safety.lean. -/
  tsW : Nat
  /-- `F_CLK`, the frequency of `CLK` in whole hertz, OPEN (D3) -/
  fClk : Nat
  /-- `T_SETTLE` -/
  tSettle : Nat
  /-- `T_STEP_LOW`, OPEN -/
  tStepLow : Nat
  /-- `T_TRIG` -/
  tTrig : Nat
  /-- `RANGE_PERIOD` -/
  rangePeriod : Nat
  /-- `CTRL_PERIOD` -/
  ctrlPeriod : Nat
  /-- `WALL_LIMIT`, OPEN -/
  wallLimit : Nat
  /-- `BASE_PERIOD`, OPEN -/
  basePeriod : Nat
  /-- `DIV_PIVOT`, OPEN, more than `DIV_FULL` -/
  divPivot : Nat
  /-- `FIRE_DURATION`, OPEN -/
  fireDuration : Nat
  /-- `BAUD` -/
  baud : Baud
  /-- timed or untimed model -/
  timing : Timing
deriving DecidableEq, Repr

/-- `TERM`, the frame terminator `\n` (R8; D39). -/
abbrev term : Byte := 0x0A

/-- `VEL_BIAS`, the zero point of `units` (R8). -/
abbrev velBias : Int := 32768

/-- How many `TICK`s a second has: `TICK` = 1 microsecond (R8). -/
abbrev ticksPerSecond : Nat := 1000000

/-- `DIV_FULL`, the reduction divisor at full speed (R8). -/
abbrev divFull : Nat := 1

/-- `N_FRAME`, bytes per command unit (R8, R90). -/
def Profile.nFrame : Profile → Nat
  | .layoutA => 3
  | .layoutB => 4
  | .teleop => 1

/-- `EN_RESET(PROFILE)`: `EN[c]` after reset (R33). -/
def Profile.enReset : Profile → Bool
  | .layoutA => true
  | .layoutB => false
  | .teleop => false

/-- The constraints of R9 (with the bound on `RX_DEPTH` of R8) and the one roam policy R203 admits. A build that breaks
one of them is refused. A frequency `F_CLK` is positive (DESIGN CHOICE: R9 does not list it; log entry 7). -/
def Config.admitted (c : Config) : Bool :=
  decide (4 ≤ c.rxDepth) && decide (c.profile.nFrame ≤ c.rxDepth) && decide (divFull < c.divPivot)
    && decide (5 ≤ c.tSettle) && decide (10 ≤ c.tTrig) && decide (1 ≤ c.tsW) && decide (0 < c.fClk)
    && decide (c.roamPolicy = .parity)

/-! ## Free values: no body, so nothing can be proved of what they are -/

/-- `TS` after the n-th reset, before it is reduced to `TS_W` bits: unspecified, a fresh draw each time (R26, R270). -/
opaque Config.tsDraw : Nat → Nat

/-- `FIRE_T0` after the n-th reset, before it is reduced to `TS_W` bits: unspecified and never read while `FIRE_BUSY = 0`
(R50). -/
opaque Config.fireT0Draw : Nat → Nat

/-- How far into a `TICK` the n-th reset leaves the timebase: no rule says (R249 item 4 says only that a clock may complete a
`TICK`). -/
opaque Config.tickPhaseDraw : Nat → Nat

/-- `F_CLK - 1` of the build `State.reset` shows: OPEN (R8; D3). -/
opaque Config.openFClk : Nat

/-- `WALL_LIMIT` of the build `State.reset` shows: OPEN (R8; D23). -/
opaque Config.openWallLimit : Nat

/-- `BASE_PERIOD` of the build `State.reset` shows: OPEN (R8; D26). -/
opaque Config.openBasePeriod : Nat

/-- `DIV_PIVOT - 2` of the build `State.reset` shows: OPEN but for `DIV_PIVOT > 1` (R8, R9; D26). -/
opaque Config.openDivPivot : Nat

/-- `T_STEP_LOW` of the build `State.reset` shows: OPEN (R8; D26). -/
opaque Config.openStepLow : Nat

/-- `FIRE_DURATION` of the build `State.reset` shows: OPEN (R8; D25). -/
opaque Config.openFireDuration : Nat

/-- A build with every decided default of R8 and every OPEN parameter free. -/
def Config.default (p : Profile) : Config where
  profile := p
  rxDepth := 64
  unitsLE := true
  laCheckTerm := false
  stopallRetracts := false
  enHoldLevel := false
  roamPolicy := .parity
  tsW := 32
  fClk := Config.openFClk + 1
  tSettle := 5
  tStepLow := Config.openStepLow
  tTrig := 10
  rangePeriod := 10000
  ctrlPeriod := 100000
  wallLimit := Config.openWallLimit
  basePeriod := Config.openBasePeriod
  divPivot := Config.openDivPivot + 2
  fireDuration := Config.openFireDuration
  baud := .b9600
  timing := .timed

end Sys2Proof
end

