-- ==== Sys2Proof/Syntax.lean ====
section
/-!
DEFINITION. The operations of the block: one constructor per row of spec/opcode_table.json, with the row's operands.
The encoded rows (formats FA, FB and FT) carry every field of their encoding, the ignored ones too, so that no bit of a
frame is lost. The rows of format `internal` have no bytes (R100) and carry the operands of their rule.
-/
namespace Sys2Proof

/-- One operation of the block (spec/opcode_table.json). -/
inductive Instr where
  -- Layout A frames, format FA (R92, R97)
  | laStop (p t : Byte)
  | laGun (p t : Byte)
  | laLeft (p t : Byte)
  | laRight (p t : Byte)
  | laUnknown (cmd p t : Byte)
  | laBadframe (cmd p t : Byte)
  -- Layout B frames, format FB (R93, R98)
  | lbBadframe (cmd : Byte) (units : Units16) (t : Byte)
  | lbStopall (units : Units16)
  | lbGun (units : Units16)
  | lbSetl (units : Units16)
  | lbSetr (units : Units16)
  | lbUnknown (cmd : Byte) (units : Units16)
  -- Profile T characters, format FT (R96, R99)
  | tW
  | tS
  | tA
  | tD
  | tF
  | tR
  | tQ
  | tOther (ch : Byte)
  -- SF, the framer (R120, R122, R123)
  | sfFrame
  | dispatchA (f : FrameA)
  | dispatchB (f : FrameB)
  -- PT, the pulse timer (R180 to R188)
  | ptTick
  | ptSample (i : Us)
  | ptRise (i : Us)
  | ptFall (i : Us)
  | ptTrigall
  | ptSnapshot
  -- MD, the motor actuator (R152 to R159, R165)
  | mdPulse (c : Channel) (dir : Bool)
  | mdHold (c : Channel)
  | mdRun (c : Channel) (dir divsel : Bool)
  | mdSetvel (c : Channel) (v : Int)
  | mdStopall
  | mdFire
  | mdFireEnd
  | mdPgStep (c : Channel)
  | mdGunset (level : Bool)
  -- RM and CU (R200, R210, R212, R222, R223)
  | rmDecide (r : Readings)
  | cuTick
  | tAccept (ch : Byte)
  | cuRoamstep
  | applySteer (cmd : SteeringCommand)
  -- the environment and reset (R71, R260, R270)
  | envRxpush (b : Byte)
  | envEcho (i : Us) (level : Bool)
  | rst
deriving DecidableEq, Repr

end Sys2Proof
end

