-- ==== Sys2Proof/WellFormed.lean ====
section
/-!
DEFINITION. Which operands an operation may carry: the constraints of the opcode maps R97, R98 and R99, which depend on the
build only through `LA_CHECK_TERM`, the range of a signed velocity (R155), and the width of a reading (R200).
-/
namespace Sys2Proof

/-- The seven character values that name a teleoperation command (R96). -/
def namedChars : List Byte := [0x77, 0x73, 0x61, 0x64, 0x66, 0x72, 0x71]

/-- The terminator of a Layout A frame that is not LA.BADFRAME: any byte, or `TERM` where the build checks it (R97). -/
def termOk (cfg : Config) (t : Byte) : Bool := !cfg.laCheckTerm || t == term

/-- The operands are ones the operation's row admits in this build. -/
def Instr.wf (cfg : Config) : Instr → Bool
  | .laStop _ t => termOk cfg t
  | .laGun _ t => termOk cfg t
  | .laLeft _ t => termOk cfg t
  | .laRight _ t => termOk cfg t
  | .laUnknown cmd _ t => decide (4 ≤ cmd.toNat) && termOk cfg t
  | .laBadframe _ _ t => !termOk cfg t
  | .lbBadframe _ _ t => t != term
  | .lbStopall _ => true
  | .lbGun _ => true
  | .lbSetl _ => true
  | .lbSetr _ => true
  | .lbUnknown cmd _ => decide (4 ≤ cmd.toNat)
  | .tW => true
  | .tS => true
  | .tA => true
  | .tD => true
  | .tF => true
  | .tR => true
  | .tQ => true
  | .tOther ch => !namedChars.contains ch
  | .sfFrame => true
  | .dispatchA _ => true
  | .dispatchB _ => true
  | .ptTick => true
  | .ptSample _ => true
  | .ptRise _ => true
  | .ptFall _ => true
  | .ptTrigall => true
  | .ptSnapshot => true
  | .mdPulse _ _ => true
  | .mdHold _ => true
  | .mdRun _ _ _ => true
  | .mdSetvel _ v => decide (-32768 ≤ v) && decide (v ≤ 32767)
  | .mdStopall => true
  | .mdFire => true
  | .mdFireEnd => true
  | .mdPgStep _ => true
  | .mdGunset _ => true
  | .rmDecide r => decide (∀ i : Us, r[i] < 2 ^ cfg.tsW)
  | .cuTick => true
  | .tAccept _ => true
  | .cuRoamstep => true
  | .applySteer _ => true
  | .envRxpush _ => true
  | .envEcho _ _ => true
  | .rst => true

/-- The profile whose command units hold the operation: none for an operation that is not encoded (R90, R100). -/
def Instr.profile : Instr → Option Profile
  | .laStop _ _ => some .layoutA
  | .laGun _ _ => some .layoutA
  | .laLeft _ _ => some .layoutA
  | .laRight _ _ => some .layoutA
  | .laUnknown _ _ _ => some .layoutA
  | .laBadframe _ _ _ => some .layoutA
  | .lbBadframe _ _ _ => some .layoutB
  | .lbStopall _ => some .layoutB
  | .lbGun _ => some .layoutB
  | .lbSetl _ => some .layoutB
  | .lbSetr _ => some .layoutB
  | .lbUnknown _ _ => some .layoutB
  | .tW => some .teleop
  | .tS => some .teleop
  | .tA => some .teleop
  | .tD => some .teleop
  | .tF => some .teleop
  | .tR => some .teleop
  | .tQ => some .teleop
  | .tOther _ => some .teleop
  | .sfFrame => none
  | .dispatchA _ => none
  | .dispatchB _ => none
  | .ptTick => none
  | .ptSample _ => none
  | .ptRise _ => none
  | .ptFall _ => none
  | .ptTrigall => none
  | .ptSnapshot => none
  | .mdPulse _ _ => none
  | .mdHold _ => none
  | .mdRun _ _ _ => none
  | .mdSetvel _ _ => none
  | .mdStopall => none
  | .mdFire => none
  | .mdFireEnd => none
  | .mdPgStep _ => none
  | .mdGunset _ => none
  | .rmDecide _ => none
  | .cuTick => none
  | .tAccept _ => none
  | .cuRoamstep => none
  | .applySteer _ => none
  | .envRxpush _ => none
  | .envEcho _ _ => none
  | .rst => none

end Sys2Proof
end

