-- ==== Sys2Proof/Decode.lean ====
section
/-!
DEFINITION. The command decoder of the three profiles and, after it, the encoder. Both are written from the formats R91 to
R96 and the opcode maps R97 to R99. The decoder is total on bytes: a whole command unit always decodes (R104), and a stream
with fewer than `N_FRAME` bytes is rejected by name.
-/
namespace Sys2Proof

/-- Why the decoder gives no instruction: fewer than `N_FRAME` bytes are buffered, SDX's "insufficient data" (R120). -/
inductive DecodeReject where
  | insufficientData
deriving DecidableEq, Repr

/-! ## Frame words and operand fields -/

/-- `F = {byte0, byte1, byte2}` (R91). -/
def frameA (b0 b1 b2 : Byte) : FrameA := b0 ++ b1 ++ b2

/-- `F = {byte0, byte1, byte2, byte3}` (R91). -/
def frameB (b0 b1 b2 b3 : Byte) : FrameB := b0 ++ b1 ++ b2 ++ b3

/-- `F[23:16]`, the commandId of a Layout A frame (R92). -/
def faCmd (f : FrameA) : Byte := f.extractLsb' 16 8

/-- `F[15:8]`, the parameter of a Layout A frame (R92). -/
def faParam (f : FrameA) : Byte := f.extractLsb' 8 8

/-- `F[7:0]`, the terminator of a Layout A frame (R92). -/
def faTerm (f : FrameA) : Byte := f.extractLsb' 0 8

/-- `F[31:24]`, the commandId of a Layout B frame (R93). -/
def fbCmd (f : FrameB) : Byte := f.extractLsb' 24 8

/-- `F[23:16]`, frame byte 1 of a Layout B frame (R93). -/
def fbU0 (f : FrameB) : Byte := f.extractLsb' 16 8

/-- `F[15:8]`, frame byte 2 of a Layout B frame (R93). -/
def fbU1 (f : FrameB) : Byte := f.extractLsb' 8 8

/-- `F[7:0]`, the terminator of a Layout B frame (R93). -/
def fbTerm (f : FrameB) : Byte := f.extractLsb' 0 8

/-- `units = {u1, u0}` where `UNITS_LE`, else `{u0, u1}` (R73, R94). -/
def assembleUnits (unitsLE : Bool) (u0 u1 : Byte) : Units16 :=
  if unitsLE then u1 ++ u0 else u0 ++ u1

/-- `units` of a Layout B frame word (R94). -/
def fbUnits (cfg : Config) (f : FrameB) : Units16 := assembleUnits cfg.unitsLE (fbU0 f) (fbU1 f)

/-- Frame byte 1 that carries `units` (the inverse of `assembleUnits`). -/
def unitsByte0 (unitsLE : Bool) (u : Units16) : Byte :=
  if unitsLE then u.extractLsb' 0 8 else u.extractLsb' 8 8

/-- Frame byte 2 that carries `units` (the inverse of `assembleUnits`). -/
def unitsByte1 (unitsLE : Bool) (u : Units16) : Byte :=
  if unitsLE then u.extractLsb' 8 8 else u.extractLsb' 0 8

/-! ## The decoder -/

/-- The opcode map of profile A (R97). -/
def decodeA (cfg : Config) (f : FrameA) : Instr :=
  if cfg.laCheckTerm && faTerm f != term then .laBadframe (faCmd f) (faParam f) (faTerm f)
  else if faCmd f = 0x00 then .laStop (faParam f) (faTerm f)
  else if faCmd f = 0x01 then .laGun (faParam f) (faTerm f)
  else if faCmd f = 0x02 then .laLeft (faParam f) (faTerm f)
  else if faCmd f = 0x03 then .laRight (faParam f) (faTerm f)
  else .laUnknown (faCmd f) (faParam f) (faTerm f)

/-- The opcode map of profile B: the terminator first, then `cmd` (R98). -/
def decodeB (cfg : Config) (f : FrameB) : Instr :=
  if fbTerm f ≠ term then .lbBadframe (fbCmd f) (fbUnits cfg f) (fbTerm f)
  else if fbCmd f = 0x00 then .lbStopall (fbUnits cfg f)
  else if fbCmd f = 0x01 then .lbGun (fbUnits cfg f)
  else if fbCmd f = 0x02 then .lbSetl (fbUnits cfg f)
  else if fbCmd f = 0x03 then .lbSetr (fbUnits cfg f)
  else .lbUnknown (fbCmd f) (fbUnits cfg f)

/-- The opcode map of profile T: the whole byte (R96, R99). -/
def decodeT (ch : Byte) : Instr :=
  if ch = 0x77 then .tW
  else if ch = 0x73 then .tS
  else if ch = 0x61 then .tA
  else if ch = 0x64 then .tD
  else if ch = 0x66 then .tF
  else if ch = 0x72 then .tR
  else if ch = 0x71 then .tQ
  else .tOther ch

/-- The command unit at the head of a byte stream, oldest byte first (R74, R90), with the bytes after it. -/
def decode (cfg : Config) (bytes : List Byte) : Except DecodeReject (Instr × List Byte) :=
  match cfg.profile, bytes with
  | .layoutA, b0 :: b1 :: b2 :: rest => .ok (decodeA cfg (frameA b0 b1 b2), rest)
  | .layoutB, b0 :: b1 :: b2 :: b3 :: rest => .ok (decodeB cfg (frameB b0 b1 b2 b3), rest)
  | .teleop, ch :: rest => .ok (decodeT ch, rest)
  | _, _ => .error .insufficientData

/-! ## The encoder -/

/-- The four bytes of a Layout B frame (R93). -/
def bytesB (cfg : Config) (cmd : Byte) (u : Units16) (t : Byte) : List Byte :=
  [cmd, unitsByte0 cfg.unitsLE u, unitsByte1 cfg.unitsLE u, t]

/-- The bytes of an operation's command unit, oldest first; none for an operation that is not encoded (R100). -/
def encode (cfg : Config) : Instr → List Byte
  | .laStop p t => [0x00, p, t]
  | .laGun p t => [0x01, p, t]
  | .laLeft p t => [0x02, p, t]
  | .laRight p t => [0x03, p, t]
  | .laUnknown cmd p t => [cmd, p, t]
  | .laBadframe cmd p t => [cmd, p, t]
  | .lbBadframe cmd u t => bytesB cfg cmd u t
  | .lbStopall u => bytesB cfg 0x00 u term
  | .lbGun u => bytesB cfg 0x01 u term
  | .lbSetl u => bytesB cfg 0x02 u term
  | .lbSetr u => bytesB cfg 0x03 u term
  | .lbUnknown cmd u => bytesB cfg cmd u term
  | .tW => [0x77]
  | .tS => [0x73]
  | .tA => [0x61]
  | .tD => [0x64]
  | .tF => [0x66]
  | .tR => [0x72]
  | .tQ => [0x71]
  | .tOther ch => [ch]
  | .sfFrame => []
  | .dispatchA _ => []
  | .dispatchB _ => []
  | .ptTick => []
  | .ptSample _ => []
  | .ptRise _ => []
  | .ptFall _ => []
  | .ptTrigall => []
  | .ptSnapshot => []
  | .mdPulse _ _ => []
  | .mdHold _ => []
  | .mdRun _ _ _ => []
  | .mdSetvel _ _ => []
  | .mdStopall => []
  | .mdFire => []
  | .mdFireEnd => []
  | .mdPgStep _ => []
  | .mdGunset _ => []
  | .rmDecide _ => []
  | .cuTick => []
  | .tAccept _ => []
  | .cuRoamstep => []
  | .applySteer _ => []
  | .envRxpush _ => []
  | .envEcho _ _ => []
  | .rst => []

/-! ## Words as spec/opcode_table.json numbers their bits -/

/-- The profile whose frame word has this many bits in the table: 8 (FT), 24 (FA), 32 (FB); a shorter word is a frame word
whose higher bits are 0. -/
def tableProfile (nbits : Nat) : Option Profile :=
  if nbits = 0 then none
  else if nbits ≤ 8 then some .teleop
  else if nbits ≤ 24 then some .layoutA
  else if nbits ≤ 32 then some .layoutB
  else none

/-- The bytes of a frame word in arrival order: the table numbers the bits of `F`, whose most significant byte is byte 0
(R91). -/
def tableBytes (p : Profile) (w : Nat) : List Byte :=
  match p with
  | .teleop => [BitVec.ofNat 8 w]
  | .layoutA => [BitVec.ofNat 8 (w / 65536), BitVec.ofNat 8 (w / 256), BitVec.ofNat 8 w]
  | .layoutB => [BitVec.ofNat 8 (w / 16777216), BitVec.ofNat 8 (w / 65536), BitVec.ofNat 8 (w / 256), BitVec.ofNat 8 w]

/-- The instruction the decoder reads from a word of the opcode table, in a build with the default parameters. -/
def decodeTableWord (nbits w : Nat) : Option Instr :=
  match tableProfile nbits with
  | none => none
  | some p =>
    match decode (Config.default p) (tableBytes p w) with
    | .ok (i, _) => some i
    | .error _ => none

end Sys2Proof
end

