-- ==== Sys2Proof/Machine/State.lean ====
section
/-!
DEFINITION. The state of the block as plain data (file 10_state.md), the reasons a step can stop, and the state after reset.
Registers the spec packs into one word (MOTOR, ACT, CTRL, RXSTAT) are held field by field; Machine/Flags.lean gives the words.
The fields under "the model's own" hold no register of the spec: the environment's future, who moves next, the build.
-/
namespace Sys2Proof.Machine

/-! ## Why a step can stop -/

/-- Faults. Closed: one reason. -/
inductive Fault where
  /-- Raised by MD.FIRE called while `FIRE_BUSY = 1`: R157 gives `FIRE_BUSY = 0` as its precondition and R164 says that no
  second fire begins before MD.FIRE_END. `T.F` tests the flag first, so no agent's step raises it. Safe: the model stops. -/
  | fireWhileBusy
deriving DecidableEq, Repr

/-- Refusals. Closed: one reason of the model, and the host's word for an operation without a meaning. -/
inductive Refusal where
  /-- Raised by `exec`'s arm of an operation that has no meaning yet. No arm raises it in this model. Safe. -/
  | notModelled (mnemonic : String)
  /-- Raised by every operation and by `step` when the build breaks R9 or has a roam policy other than Parity: such a build is
  not a Sentinal-Dart-X build and "a model must refuse such a configuration" (R9, R203). Safe. -/
  | configNotAdmitted
deriving DecidableEq, Repr

/-! ## Values of the registers -/

/-- The values of `TSEQ`, the trigger sequencer's phase (R31). -/
inductive TSeq where
  /-- `SLEEP` with the wait already over: the reset value -/
  | sleepOver
  /-- `SLEEP(t0)`: waiting from `t0` for `RANGE_PERIOD` -/
  | sleep (t0 : Nat)
  /-- `HIGH(k, t0)`: the trigger of channel `k` was raised at `t0` -/
  | high (k : Us) (t0 : Nat)
deriving DecidableEq, Repr

/-- The values of `PG_PH[c]` (R38). -/
inductive PgPhase where
  | high
  | low (t0 : Nat)
deriving DecidableEq, Repr

/-- One motor channel: the fields of `MOTOR[c]` (R32 to R37) and its hidden pulse-generator state (R38). -/
structure Motor where
  /-- `EN[c]` (R33) -/
  en : Bool
  /-- `DIR[c]` (R34) -/
  dir : Bool
  /-- `STEP[c]` (R35) -/
  step : Bool
  /-- `RUN[c]` (R36) -/
  run : Bool
  /-- `DIVSEL[c]` (R37) -/
  divsel : Bool
  /-- `PG_PH[c]` (R38) -/
  pgPh : PgPhase
  /-- `SETTLE_T[c]` (R38) -/
  settleT : Nat
  /-- `LAST_STEP_T[c]` (R38) -/
  lastStepT : Nat
deriving DecidableEq, Repr

/-- `MODE` (R42). -/
inductive Mode where
  | manual
  | roam
deriving DecidableEq, Repr

/-- The values of `STEER` that are ever written (R43): codes 0 to 4 and 7. Codes 5 and 6 are reserved and never written. -/
inductive Steer where
  | stop
  | forward
  | left
  | right
  | reverse
  | none
deriving DecidableEq, Repr

/-- The values of `LAST_RESULT` that are ever written (R240): codes 0 to 6. Code 7 is reserved and never written. -/
inductive Result where
  | none
  | ok
  | invalidFraming
  | unknownCommand
  | reentrant
  | debounced
  | stub
deriving DecidableEq, Repr

/-- Where an MD.PULSE in progress waits (R47, R152): before `STEP[c] <- 0`, or before `STEP[c] <- 1`. -/
inductive PulseStage where
  /-- inside `Wait(T_SETTLE)` -/
  | settle
  /-- inside `Wait(T_STEP_LOW)` -/
  | low
deriving DecidableEq, Repr

/-- The values of `CU_PH`, the phase of the control unit (R47). -/
inductive CuPhase where
  | sleep (t0 : Nat)
  | ready
  | pulse (c : Channel) (stage : PulseStage) (t0 : Nat)
  | firing
deriving DecidableEq, Repr

/-- The output ports (R22). -/
inductive Pin where
  | trig (i : Us)
  | mEn (c : Channel)
  | mDir (c : Channel)
  | mStep (c : Channel)
  | gun
deriving DecidableEq, Repr

/-- One event `Emit(pin, level)` of the output trace (R13, R21). -/
structure Emit where
  pin : Pin
  level : Bool
deriving DecidableEq, Repr

/-- The levels of the input ports at one `CLK` edge (R22). -/
structure Ports where
  /-- `RST` -/
  rst : Bool
  /-- `RX_VALID` -/
  rxValid : Bool
  /-- `RX_BYTE` -/
  rxByte : Byte
  /-- `ECHO[0..4]` -/
  echo : Levels
deriving DecidableEq, Repr

/-- One step of one agent, or one act of the environment (R250, R260). -/
inductive Move where
  /-- the timebase -/
  | tick
  /-- edge-capture unit `i` -/
  | sample (i : Us)
  /-- the trigger sequencer -/
  | trig
  /-- the control unit -/
  | cu
  /-- the pulse generator of channel `c` -/
  | pg (c : Channel)
  /-- the fire timer -/
  | fireEnd
  /-- the serial environment -/
  | rxPush (b : Byte)
  /-- the echo environment of channel `i` -/
  | echo (i : Us) (level : Bool)
  /-- a reset -/
  | reset
deriving DecidableEq, Repr

/-- The places of one clock, in the fixed order of R249. -/
inductive Slot where
  /-- the `CLK` edge: the ports are read and `RST` acts -/
  | edge
  | rx
  | sample (i : Us)
  | tick
  | trig
  | pg (c : Channel)
  | fire
  | cu
deriving DecidableEq, Repr

/-- What an operation that returns a value gave its caller: PT.SNAPSHOT and RM.DECIDE write no register (R188, R202). -/
inductive Returned where
  | readings (r : Readings)
  | steering (c : SteeringCommand)
deriving DecidableEq, Repr

/-! ## The state -/

/-- The whole state of the block. -/
structure State where
  -- the build
  /-- the parameters of the build: the model's own, no operation writes them (R51) -/
  cfg : Config
  -- the input ports
  /-- the levels of the input ports (R22) -/
  ports : Ports
  -- PT
  /-- `TS` (R26) -/
  ts : Nat
  /-- `LET[0..4]` (R27) -/
  letT : Readings
  /-- `LRT[0..4]` (R28) -/
  lrt : Readings
  /-- `ECHO_Q[0..4]` (R29) -/
  echoQ : Levels
  /-- `SYNC1[0..4]` (R29) -/
  sync1 : Levels
  /-- `SYNC2[0..4]` (R29) -/
  sync2 : Levels
  /-- `TRIG[0..4]` (R30) -/
  trig : Levels
  /-- `TSEQ` (R31) -/
  tseq : TSeq
  -- MD
  /-- motor channel 0 (R32 to R38) -/
  left : Motor
  /-- motor channel 1 (R32 to R38) -/
  right : Motor
  /-- `GUN` (R39) -/
  gun : Bool
  /-- `FIRE_BUSY` (R40) -/
  fireBusy : Bool
  /-- `FIRE_T0` (R40) -/
  fireT0 : Nat
  -- CU and SF
  /-- `MODE` (R42) -/
  mode : Mode
  /-- `STEER` (R43) -/
  steer : Steer
  /-- `LAST_VALID` (R44) -/
  lastValid : Bool
  /-- `LAST_CHAR` (R44) -/
  lastChar : Byte
  /-- `LAST_RESULT` (R45) -/
  lastResult : Result
  /-- `RXQ`, oldest byte first (R46, R70) -/
  rxq : List Byte
  /-- `RX_OVF` (R46) -/
  rxOvf : Bool
  /-- `CU_PH` (R47) -/
  cuPh : CuPhase
  -- what a test bench observes
  /-- the output trace since the last reset, oldest event first (R21, R271) -/
  trace : List Emit
  -- the model's own
  /-- the value the last PT.SNAPSHOT or RM.DECIDE returned -/
  ret : Option Returned
  /-- the readings of the last PT.SNAPSHOT, as far as they are read (R81, R188) -/
  snap : Readings
  /-- the channel a PT.SNAPSHOT reads next; 0 when none is in progress (R188) -/
  snapAt : Us
  /-- CU is inside the roam step of a control tick: some of its snapshot's reads are still to come (R188, R222) -/
  inTick : Bool
  /-- how many `TICK`s this clock has completed and PT.TICK has not yet counted (R249 item 4) -/
  ticksDue : Nat
  /-- how far into a `TICK` the last clock ended, in units of 1 / `F_CLK` microseconds (R249 item 4) -/
  tickPhase : Nat
  /-- how many resets there were: the argument of the next free draw -/
  draws : Nat
  /-- the port levels of the clocks to come (R260); after the last one the environment is quiet -/
  inputs : List Ports
  /-- in the untimed model, who moves next, and next after that (R259) -/
  schedule : List Move
  /-- the place in the clock's order (R249) -/
  slot : Slot
deriving DecidableEq, Repr

/-- A motor channel after reset: `EN_RESET`, every level 0, the times at the reset time (R32, R38). -/
def Motor.reset (enReset : Bool) (now : Nat) : Motor where
  en := enReset
  dir := false
  step := false
  run := false
  divsel := false
  pgPh := .high
  settleT := now
  lastStepT := now

/-- Every register at its reset value (R50), the output trace at its start (R271), and the rest as given. `n` numbers the
free draws of `TS`, `FIRE_T0` and the phase of the timebase. -/
def State.afterReset (cfg : Config) (ports : Ports) (n : Nat) (inputs : List Ports) (schedule : List Move) (slot : Slot) :
    State where
  cfg := cfg
  ports := ports
  ts := Config.tsDraw n % 2 ^ cfg.tsW
  letT := Vector.replicate 5 0
  lrt := Vector.replicate 5 0
  echoQ := ports.echo
  sync1 := ports.echo
  sync2 := ports.echo
  trig := Vector.replicate 5 false
  tseq := .sleepOver
  left := Motor.reset cfg.profile.enReset (Config.tsDraw n % 2 ^ cfg.tsW)
  right := Motor.reset cfg.profile.enReset (Config.tsDraw n % 2 ^ cfg.tsW)
  gun := false
  fireBusy := false
  fireT0 := Config.fireT0Draw n % 2 ^ cfg.tsW
  mode := .manual
  steer := .none
  lastValid := false
  lastChar := 0x00
  lastResult := .none
  rxq := []
  rxOvf := false
  cuPh := .ready
  trace := []
  ret := none
  snap := Vector.replicate 5 0
  snapAt := 0
  inTick := false
  ticksDue := 0
  tickPhase := Config.tickPhaseDraw n % cfg.fClk
  draws := n + 1
  inputs := inputs
  schedule := schedule
  slot := slot

/-- The ports of the last reset clock of `State.reset`: `RST` high, every echo line low, no byte. -/
def Ports.inReset : Ports where
  rst := true
  rxValid := false
  rxByte := 0x00
  echo := Vector.replicate 5 false

/-- The machine right after reset, in a profile T build with the default parameters, before the first clock with `RST = 0`
(R50, R270, R272). -/
def State.reset : State := State.afterReset (Config.default .teleop) Ports.inReset 0 [] [] .edge

end Sys2Proof.Machine
end

