-- ==== Sys2Proof/Machine/Operands.lean ====
section
/-!
DEFINITION. The values of the operands of the framed commands (R94, R95), of the fields of a frame word already taken apart by
Decode.lean, and the registers an operand of steering type stands for (R43).
-/
namespace Sys2Proof.Machine

/-- `v = units - VEL_BIAS`, a mathematical integer in [-32768, 32767] (R94, R124). -/
def velocity (units : Units16) : Int := (units.toNat : Int) - velBias

/-- The direction a Layout A parameter selects: `p = 0x00` is 1 (High), any other value 0 (R95). -/
def dirOfParam (p : Byte) : Bool := p == 0x00

/-- The gun level LB.GUN selects: `units = 1` asserts, any other value ceases; the test is on `units`, not on `v` (R135). -/
def gunOfUnits (units : Units16) : Bool := units == 1

/-- The direction of MD.SETVEL for a nonzero velocity: the sign (R155). -/
def dirOfVelocity (v : Int) : Bool := decide (0 < v)

/-- The value of `STEER` that names a steering command (R43). -/
def steerOf : SteeringCommand → Steer
  | .stop => .stop
  | .forward => .forward
  | .left => .left
  | .right => .right

end Sys2Proof.Machine
end

