-- ==== Sys2Proof/Machine/Ops.lean ====
section
/-!
DEFINITION. The named operations over registers that the meanings share: reading and writing a register with its output
port (R20, R21), the FIFO primitives (R12), `raise` (R13), time conditions (R254), the build check (R9), reset (R270), and the
motor operations that several commands perform (R152 to R165). The block has no traps (R251) and no addressable memory (R72):
`raise` is all there is of taking an exception, and the receive FIFO is the only byte store.
-/
namespace Sys2Proof.Machine

/-- What one operation answers. -/
abbrev Out := Host.Outcome State Fault Refusal

/-- A configuration that breaks R9 or R203 is refused; any other goes on. -/
def onBuild (s : State) (k : Out) : Out :=
  if s.cfg.admitted then k else .refused .configNotAdmitted

/-! ## Time -/

/-- `(a - b) mod 2^w` (R10). -/
def timeSub (w : Nat) (a b : Nat) : Nat := (a + (2 ^ w - b % 2 ^ w)) % 2 ^ w

/-- `Now() - t0`, modulo `2^TS_W` (R10, R254). -/
def State.elapsed (s : State) (t0 : Nat) : Nat := timeSub s.cfg.tsW s.ts t0

/-- The wait of `d` ticks that began at `t0` is over: differences of `Now()` count, as R254 says, so where a wait begins inside a
`TICK` it may end up to one `TICK` before `d` of real time (R13) have passed (DESIGN CHOICE, log entry 36). The untimed model drops
every time condition (R259, R283). -/
def State.passed (s : State) (t0 : Nat) (d : Nat) : Bool :=
  match s.cfg.timing with
  | .timed => decide (d ≤ s.elapsed t0)
  | .untimed => true

/-! ## Registers that drive an output port -/

/-- The event a write records: none when the port's level does not change (R21). -/
def changed (pin : Pin) (old new level : Bool) : List Emit :=
  bif old == new then [] else [⟨pin, level⟩]

/-- Motor channel `c`. -/
def State.motor (s : State) : Channel → Motor
  | .left => s.left
  | .right => s.right

/-- Replaces motor channel `c`; the other channel and every other register stay. -/
def State.setMotor (s : State) (c : Channel) (m : Motor) : State :=
  { s with
    left := match c with
      | .left => m
      | .right => s.left
    right := match c with
      | .left => s.right
      | .right => m }

/-- The level of `M_EN[c]` for a value of `EN[c]`: `EN_HOLD_LEVEL` when held (R48). -/
def enPin (cfg : Config) (en : Bool) : Bool := bif en then !cfg.enHoldLevel else cfg.enHoldLevel

/-- `EN[c] <- v` (R33, R48). -/
def State.setEn (s : State) (c : Channel) (v : Bool) : State :=
  { s.setMotor c { s.motor c with en := v } with
    trace := s.trace ++ changed (.mEn c) (s.motor c).en v (enPin s.cfg v) }

/-- `DIR[c] <- v` (R34). -/
def State.setDir (s : State) (c : Channel) (v : Bool) : State :=
  { s.setMotor c { s.motor c with dir := v } with
    trace := s.trace ++ changed (.mDir c) (s.motor c).dir v v }

/-- `STEP[c] <- v` (R35). -/
def State.setStep (s : State) (c : Channel) (v : Bool) : State :=
  { s.setMotor c { s.motor c with step := v } with
    trace := s.trace ++ changed (.mStep c) (s.motor c).step v v }

/-- `GUN <- v` (R39). -/
def State.setGun (s : State) (v : Bool) : State :=
  { s with gun := v, trace := s.trace ++ changed .gun s.gun v v }

/-- `TRIG[k] <- v` (R30). -/
def State.setTrig (s : State) (k : Us) (v : Bool) : State :=
  { s with trig := s.trig.set k v, trace := s.trace ++ changed (.trig k) s.trig[k] v v }

/-! ## Motor registers that drive no port -/

/-- `RUN[c] <- v` (R36). -/
def State.setRun (s : State) (c : Channel) (v : Bool) : State :=
  s.setMotor c { s.motor c with run := v }

/-- `DIVSEL[c] <- v` (R37). -/
def State.setDivsel (s : State) (c : Channel) (v : Bool) : State :=
  s.setMotor c { s.motor c with divsel := v }

/-- `SETTLE_T[c] <- Now()` (R38). -/
def State.restartSettle (s : State) (c : Channel) : State :=
  s.setMotor c { s.motor c with settleT := s.ts }

/-! ## Results -/

/-- `LAST_RESULT <- r`: what `raise` records before the operation ends, and what a command that was carried out records
(R13, R240). -/
def State.raise (s : State) (r : Result) : State := { s with lastResult := r }

/-! ## The receive FIFO (R12, R70) -/

/-- `RxCount()`. -/
def State.rxCount (s : State) : Nat := s.rxq.length

/-- `RxPeek(k)`: defined only for `k < RxCount()`. -/
def State.rxPeek (s : State) (k : Nat) : Option Byte := s.rxq[k]?

/-- `RxDrop(n)`, for `n ≤ RxCount()`: the callers test the count first. -/
def State.rxDrop (s : State) (n : Nat) : State := { s with rxq := s.rxq.drop n }

/-- `RxPush(b)`: a byte that finds the FIFO full is lost and sets the sticky `RX_OVF` (R71). -/
def State.rxPush (s : State) (b : Byte) : State :=
  if s.rxCount < s.cfg.rxDepth then { s with rxq := s.rxq ++ [b] } else { s with rxOvf := true }

/-! ## Reset -/

/-- `RST = 1` at a `CLK` edge: every register takes its reset value, `TS` and `FIRE_T0` a fresh draw, and the trace starts
again (R270, R271). The build and the environment's future stay. -/
def State.resetClock (s : State) : State :=
  State.afterReset s.cfg s.ports s.draws s.inputs s.schedule s.slot

/-- `SYNC1`, `SYNC2` and `ECHO_Q` take the level of `ECHO` (R29). -/
def State.loadSync (s : State) : State :=
  { s with echoQ := s.ports.echo, sync1 := s.ports.echo, sync2 := s.ports.echo }

/-- The release of `RST`, before the first move of an untimed run: where `RST` is still high it goes low and the synchronizers
hold the level of `ECHO` at that moment (R29); where it is low already nothing changes, so no edge is lost (R248). That the
first scheduled move is the moment of release is the model's choice (DESIGN CHOICE, log entry 18). -/
def State.release (s : State) : State :=
  if s.ports.rst then { s.loadSync with ports := { s.ports with rst := false } } else s

/-! ## Motor operations (file 41_motor_actuator.md) -/

/-- MD.HOLD(c): `RUN[c] <- 0; EN[c] <- 0` (R153). -/
def State.hold (s : State) (c : Channel) : State := (s.setRun c false).setEn c false

/-- MD.RUN(c, dir, divsel): enable, direction, divisor, settle time, run (R154). -/
def State.run (s : State) (c : Channel) (dir divsel : Bool) : State :=
  ((((s.setEn c true).setDir c dir).setDivsel c divsel).restartSettle c).setRun c true

/-- Runs both channels: the actuation of the motions `w`, `s`, `a` and `d` (R214 to R217, R223). -/
def State.runBoth (s : State) (dirLeft dirRight divsel : Bool) : State :=
  (s.run .left dirLeft divsel).run .right dirRight divsel

/-- MD.SETVEL(c, v): hold at 0, else run at full speed in the direction of the sign (R155). -/
def State.setVel (s : State) (c : Channel) (v : Int) : State :=
  if v = 0 then s.hold c else s.run c (dirOfVelocity v) false

/-- MD.STOPALL(): hold both channels, and deassert the gun only where `STOPALL_RETRACTS` (R156). -/
def State.stopAll (s : State) : State :=
  let s' := (s.hold .left).hold .right
  if s.cfg.stopallRetracts then s'.setGun false else s'

/-- MD.FIRE(), for a caller that found `FIRE_BUSY = 0` (R157). -/
def State.fire (s : State) : State :=
  { ((s.hold .left).hold .right).setGun true with fireBusy := true, fireT0 := s.ts, cuPh := .firing }

/-- MD.PULSE(c, dir) up to its first `Wait` (R152). -/
def State.pulseBegin (s : State) (c : Channel) (dir : Bool) : State :=
  { (s.setDir c dir).restartSettle c with cuPh := .pulse c .settle s.ts }

/-- The next stage of an MD.PULSE in progress on channel `c`, once its wait is over (R152). Its last stage ends the control
tick it belongs to, so CU goes to sleep (R210). -/
def State.pulseNext (s : State) (c : Channel) (stage : PulseStage) (t0 : Nat) : State :=
  match stage with
  | .settle => if s.passed t0 s.cfg.tSettle then { s.setStep c false with cuPh := .pulse c .low s.ts } else s
  | .low => if s.passed t0 s.cfg.tStepLow then { s.setStep c true with cuPh := .sleep s.ts } else s

end Sys2Proof.Machine
end

