-- ==== Sys2Proof/Machine/Motor.lean ====
section
/-!
DEFINITION. The meanings of the MD rows: motor drive pulse-generator and direction mux (file 41_motor_actuator.md).
An operation with a `Wait` is cut into atomic steps there (R14); each `exec` of it takes its next one, and none while the wait
is not over: an operation that is not enabled writes nothing.
-/
namespace Sys2Proof.Machine

/-- MD.PULSE(c, dir) (R152): begins the pulse, or, where CU is inside an MD.PULSE already, takes that pulse's next stage. -/
def mdPulse (c : Channel) (dir : Bool) (s : State) : State :=
  match s.cuPh with
  | .pulse c' stage t0 => s.pulseNext c' stage t0
  | .sleep _ => s.pulseBegin c dir
  | .ready => s.pulseBegin c dir
  | .firing => s.pulseBegin c dir

/-- MD.PULSE (R152). -/
def execMdPulse (c : Channel) (dir : Bool) (s : State) : Out := onBuild s (.next (mdPulse c dir s))

/-- MD.HOLD (R153). -/
def execMdHold (c : Channel) (s : State) : Out := onBuild s (.next (s.hold c))

/-- MD.RUN (R154). -/
def execMdRun (c : Channel) (dir divsel : Bool) (s : State) : Out := onBuild s (.next (s.run c dir divsel))

/-- MD.SETVEL (R155). -/
def execMdSetvel (c : Channel) (v : Int) (s : State) : Out := onBuild s (.next (s.setVel c v))

/-- MD.STOPALL (R156). -/
def execMdStopall (s : State) : Out := onBuild s (.next s.stopAll)

/-- MD.FIRE (R157). Its precondition is `FIRE_BUSY = 0`; a second fire cannot begin before MD.FIRE_END (R164), so a call while
the flag is 1 stops with a fault. -/
def execMdFire (s : State) : Out := onBuild s (if s.fireBusy then .fault .fireWhileBusy else .next s.fire)

/-- The enabling condition of MD.FIRE_END (R158). -/
def fireEndEnabled (s : State) : Bool := s.fireBusy && s.passed s.fireT0 s.cfg.fireDuration

/-- MD.FIRE_END, on the fire-timer agent (R158). -/
def mdFireEnd (s : State) : State :=
  if fireEndEnabled s then { s.setGun false with fireBusy := false, cuPh := .sleep s.ts } else s

/-- MD.FIRE_END (R158). -/
def execMdFireEnd (s : State) : Out := onBuild s (.next (mdFireEnd s))

/-- The step period of channel `c`: `BASE_PERIOD` times the divisor `DIVSEL[c]` selects (R37, R162). -/
def stepPeriod (s : State) (c : Channel) : Nat :=
  s.cfg.basePeriod * (if (s.motor c).divsel then s.cfg.divPivot else divFull)

/-- The enabling condition of PG_LOW(c) (R159). -/
def pgLowEnabled (s : State) (c : Channel) : Bool :=
  (s.motor c).run && s.passed (s.motor c).settleT s.cfg.tSettle && s.passed (s.motor c).lastStepT (stepPeriod s c)

/-- PG_LOW(c): `STEP[c] <- 0; PG_PH[c] <- LOW(Now())` (R159). -/
def pgLow (c : Channel) (s : State) : State :=
  let s' := s.setStep c false
  s'.setMotor c { s'.motor c with pgPh := .low s.ts }

/-- PG_HIGH(c): the rising edge, and the time of it (R159). -/
def pgHigh (c : Channel) (s : State) : State :=
  let s' := s.setStep c true
  s'.setMotor c { s'.motor c with pgPh := .high, lastStepT := s.ts }

/-- The enabling condition of PG_HIGH(c) with `PG_PH[c] = LOW(t0)`: it does not test `RUN[c]`, so a step that has begun
completes (R159, R161). -/
def pgHighEnabled (s : State) (c : Channel) (t0 : Nat) : Bool :=
  s.passed t0 s.cfg.tStepLow && s.passed (s.motor c).settleT s.cfg.tSettle

/-- MD.PG_STEP(c): the next half-step of the pulse generator, where it is enabled (R159). -/
def mdPgStep (c : Channel) (s : State) : State :=
  match (s.motor c).pgPh with
  | .high => if pgLowEnabled s c then pgLow c s else s
  | .low t0 => if pgHighEnabled s c t0 then pgHigh c s else s

/-- MD.PG_STEP (R159). -/
def execMdPgStep (c : Channel) (s : State) : Out := onBuild s (.next (mdPgStep c s))

/-- MD.GUNSET (R165). -/
def execMdGunset (level : Bool) (s : State) : Out := onBuild s (.next (s.setGun level))

end Sys2Proof.Machine
end

