-- ==== Sys2Proof/Machine/Framer.lean ====
section
/-!
DEFINITION. The meanings of the SF rows and of the Layout A and Layout B commands (file 40_serial_framer.md). The dispatchers
follow the pseudocode of R122 and R123; the decoder of Decode.lean follows the opcode maps R97 and R98.
-/
namespace Sys2Proof.Machine

/-! ## Layout A commands -/

/-- LA.BADFRAME (R127). -/
def laBadframe (s : State) : State := s.raise .invalidFraming

/-- LA.STOP, a stub (R128). -/
def laStop (s : State) : State := s.raise .stub

/-- LA.GUN, a stub: `GUN` is not written (R129). -/
def laGun (s : State) : State := s.raise .stub

/-- LA.LEFT: one step on channel 0 (R130), as far as MD.PULSE's first `Wait`; CU's next moves take its other stages. -/
def laLeft (p : Byte) (s : State) : State := (s.raise .ok).pulseBegin .left (dirOfParam p)

/-- LA.RIGHT: one step on channel 1 (R131), as far as MD.PULSE's first `Wait`. -/
def laRight (p : Byte) (s : State) : State := (s.raise .ok).pulseBegin .right (dirOfParam p)

/-- LA.UNKNOWN (R132). -/
def laUnknown (s : State) : State := s.raise .unknownCommand

/-- LA.BADFRAME (R127): `cmd` and `p` are not applied. -/
def execLaBadframe (_cmd _p _t : Byte) (s : State) : Out := onBuild s (.next (laBadframe s))

/-- LA.STOP (R128): `p` and `t` are ignored. -/
def execLaStop (_p _t : Byte) (s : State) : Out := onBuild s (.next (laStop s))

/-- LA.GUN (R129): `p` and `t` are ignored. -/
def execLaGun (_p _t : Byte) (s : State) : Out := onBuild s (.next (laGun s))

/-- LA.LEFT (R130). -/
def execLaLeft (p _t : Byte) (s : State) : Out := onBuild s (.next (laLeft p s))

/-- LA.RIGHT (R131). -/
def execLaRight (p _t : Byte) (s : State) : Out := onBuild s (.next (laRight p s))

/-- LA.UNKNOWN (R132). -/
def execLaUnknown (_cmd _p _t : Byte) (s : State) : Out := onBuild s (.next (laUnknown s))

/-! ## Layout B commands -/

/-- LB.BADFRAME (R133). -/
def lbBadframe (s : State) : State := s.raise .invalidFraming

/-- LB.STOPALL (R134). -/
def lbStopall (s : State) : State := (s.raise .ok).stopAll

/-- LB.GUN: a level, not a timed fire (R135). -/
def lbGun (units : Units16) (s : State) : State := (s.raise .ok).setGun (gunOfUnits units)

/-- LB.SETL(v) (R136). -/
def lbSetl (units : Units16) (s : State) : State := (s.raise .ok).setVel .left (velocity units)

/-- LB.SETR(v) (R137). -/
def lbSetr (units : Units16) (s : State) : State := (s.raise .ok).setVel .right (velocity units)

/-- LB.UNKNOWN (R138). -/
def lbUnknown (s : State) : State := s.raise .unknownCommand

/-- LB.BADFRAME (R133): `cmd` and `units` are not applied. -/
def execLbBadframe (_cmd : Byte) (_units : Units16) (_t : Byte) (s : State) : Out := onBuild s (.next (lbBadframe s))

/-- LB.STOPALL (R134): `units` is ignored. -/
def execLbStopall (_units : Units16) (s : State) : Out := onBuild s (.next (lbStopall s))

/-- LB.GUN (R135). -/
def execLbGun (units : Units16) (s : State) : Out := onBuild s (.next (lbGun units s))

/-- LB.SETL (R136). -/
def execLbSetl (units : Units16) (s : State) : Out := onBuild s (.next (lbSetl units s))

/-- LB.SETR (R137). -/
def execLbSetr (units : Units16) (s : State) : Out := onBuild s (.next (lbSetr units s))

/-- LB.UNKNOWN (R138). -/
def execLbUnknown (_cmd : Byte) (_units : Units16) (s : State) : Out := onBuild s (.next (lbUnknown s))

/-! ## The dispatchers and the framer -/

/-- DISPATCH_A(F) (R122). -/
def dispatchA (f : FrameA) (s : State) : State :=
  let cmd := faCmd f
  let p := faParam f
  let t := faTerm f
  if s.cfg.laCheckTerm && t != term then laBadframe s
  else if cmd = 0x00 then laStop s
  else if cmd = 0x01 then laGun s
  else if cmd = 0x02 then laLeft p s
  else if cmd = 0x03 then laRight p s
  else laUnknown s

/-- DISPATCH_B(F): the terminator is tested first (R123). -/
def dispatchB (f : FrameB) (s : State) : State :=
  let cmd := fbCmd f
  let units := fbUnits s.cfg f
  let t := fbTerm f
  if t ≠ term then lbBadframe s
  else if cmd = 0x00 then lbStopall s
  else if cmd = 0x01 then lbGun units s
  else if cmd = 0x02 then lbSetl units s
  else if cmd = 0x03 then lbSetr units s
  else lbUnknown s

/-- DISPATCH_A (R122). -/
def execDispatchA (f : FrameA) (s : State) : Out := onBuild s (.next (dispatchA f s))

/-- DISPATCH_B (R123). -/
def execDispatchB (f : FrameB) (s : State) : Out := onBuild s (.next (dispatchB f s))

/-- SF.FRAME (R120): with fewer than `N_FRAME` bytes nothing is consumed; otherwise the whole frame is consumed, whatever it
decodes to. Profile T has no framer (R224): there it writes nothing. -/
def sfFrame (s : State) : State :=
  match s.cfg.profile with
  | .layoutA =>
    match s.rxPeek 0, s.rxPeek 1, s.rxPeek 2 with
    | some b0, some b1, some b2 => dispatchA (frameA b0 b1 b2) (s.rxDrop 3)
    | _, _, _ => s
  | .layoutB =>
    match s.rxPeek 0, s.rxPeek 1, s.rxPeek 2, s.rxPeek 3 with
    | some b0, some b1, some b2, some b3 => dispatchB (frameB b0 b1 b2 b3) (s.rxDrop 4)
    | _, _, _, _ => s
  | .teleop => s

/-- SF.FRAME (R120). -/
def execSfFrame (s : State) : Out := onBuild s (.next (sfFrame s))

end Sys2Proof.Machine
end

