-- ==== Sys2Proof/Machine/Timer.lean ====
section
/-!
DEFINITION. The meanings of the PT rows: the timebase, the edge-capture units, the trigger sequencer and the snapshot port
(file 42_ultrasonic_timer.md).
-/
namespace Sys2Proof.Machine

/-- PT.TICK: `TS <- (TS + 1) mod 2^TS_W` (R180). -/
def ptTick (s : State) : State := { s with ts := (s.ts + 1) % 2 ^ s.cfg.tsW }

/-- PT.TICK (R180). -/
def execPtTick (s : State) : Out := onBuild s (.next (ptTick s))

/-- PT.RISE(i): `LET[i] <- Now()` (R182). -/
def ptRise (i : Us) (s : State) : State := { s with letT := s.letT.set i s.ts }

/-- PT.FALL(i): `LRT[i] <- (Now() - LET[i]) mod 2^TS_W` (R183). -/
def ptFall (i : Us) (s : State) : State := { s with lrt := s.lrt.set i (timeSub s.cfg.tsW s.ts s.letT[i]) }

/-- PT.SAMPLE(i): shifts the synchronizer and captures an edge of its third stage (R181). -/
def ptSample (i : Us) (s : State) : State :=
  let level := s.sync2[i]
  let s' := { s with sync2 := s.sync2.set i s.sync1[i], sync1 := s.sync1.set i s.ports.echo[i] }
  if level = s.echoQ[i] then s'
  else
    let s'' := { s' with echoQ := s'.echoQ.set i level }
    if level then ptRise i s'' else ptFall i s''

/-- PT.SAMPLE (R181). -/
def execPtSample (i : Us) (s : State) : Out := onBuild s (.next (ptSample i s))

/-- PT.RISE (R182). -/
def execPtRise (i : Us) (s : State) : Out := onBuild s (.next (ptRise i s))

/-- PT.FALL (R183). -/
def execPtFall (i : Us) (s : State) : Out := onBuild s (.next (ptFall i s))

/-- Raises the trigger of channel `k`: `TRIG[k] <- 1; TSEQ <- HIGH(k, Now())` (R186). -/
def trigRaise (k : Us) (s : State) : State := { s.setTrig k true with tseq := .high k s.ts }

/-- Lowers the trigger of channel `k` after its wait, and raises the next one, or goes to sleep after the last (R186). -/
def trigAdvance (k : Us) (s : State) : State :=
  let s' := s.setTrig k false
  match k with
  | 0 => trigRaise 1 s'
  | 1 => trigRaise 2 s'
  | 2 => trigRaise 3 s'
  | 3 => trigRaise 4 s'
  | 4 => { s' with tseq := .sleep s.ts }

/-- PT.TRIGALL: the next atomic step of a ranging iteration, where it is enabled (R186). -/
def ptTrigall (s : State) : State :=
  match s.tseq with
  | .sleepOver => trigRaise 0 s
  | .sleep t0 => if s.passed t0 s.cfg.rangePeriod then trigRaise 0 s else s
  | .high k t0 => if s.passed t0 s.cfg.tTrig then trigAdvance k s else s

/-- PT.TRIGALL (R186). -/
def execPtTrigall (s : State) : Out := onBuild s (.next (ptTrigall s))

/-- One read of a snapshot, `r[i] := LRT[i]`; the next one is channel `i + 1`, and after channel 4 none is in progress. Each read
is an atomic step, and steps of other agents may fall between two of them (R81, R188). -/
def readNext (s : State) : State :=
  { s with snap := s.snap.set s.snapAt s.lrt[s.snapAt], snapAt := s.snapAt + 1 }

/-- PT.SNAPSHOT (R188): the next of its five reads; the last one returns the readings to the caller, held in `ret`. It writes no
register of the block. -/
def ptSnapshot (s : State) : State :=
  if s.snapAt = 4 then { readNext s with ret := some (.readings (readNext s).snap) } else readNext s

/-- PT.SNAPSHOT (R188). -/
def execPtSnapshot (s : State) : Out := onBuild s (.next (ptSnapshot s))

end Sys2Proof.Machine
end

