-- ==== Sys2Proof/Machine/Roam.lean ====
section
/-!
DEFINITION. The roam decision (file 43_roam_decision.md) and the roam step of CU with its actuation map (R222, R223).
-/
namespace Sys2Proof.Machine

/-- RM.DECIDE(r) under `ROAM_POLICY = Parity`: only the centre reading counts; the test is unsigned and strict (R200). -/
def rmDecide (cfg : Config) (r : Readings) : SteeringCommand :=
  if r[center] < cfg.wallLimit then .right else .forward

/-- RM.DECIDE (R200): it writes no register (R202); the command goes to the caller, held in `ret`. -/
def execRmDecide (r : Readings) (s : State) : Out :=
  onBuild s (.next { s with ret := some (.steering (rmDecide s.cfg r)) })

/-- APPLY(s): the actuation of the character with the same steering meaning (R223). -/
def applySteer (cmd : SteeringCommand) (s : State) : State :=
  match cmd with
  | .forward => s.runBoth true true false
  | .left => s.runBoth false true true
  | .right => s.runBoth true false true
  | .stop => s.stopAll

/-- APPLY (R223). -/
def execApplySteer (cmd : SteeringCommand) (s : State) : Out := onBuild s (.next (applySteer cmd s))

/-- The end of CU.ROAMSTEP: RM's decision on the readings, applied where it differs from `STEER` (R222). -/
def steerBy (r : Readings) (s : State) : State :=
  let cmd := rmDecide s.cfg r
  if steerOf cmd = s.steer then s else { applySteer cmd s with steer := steerOf cmd }

/-- CU.ROAMSTEP (R222): the next read of its snapshot; with the last one, the decision on the five readings. -/
def roamStep (s : State) : State :=
  if s.snapAt = 4 then steerBy (readNext s).snap (readNext s) else readNext s

/-- CU.ROAMSTEP (R222). -/
def execCuRoamstep (s : State) : Out := onBuild s (.next (roamStep s))

end Sys2Proof.Machine
end

