-- ==== Sys2Proof/Machine/Control.lean ====
section
/-!
DEFINITION. The meanings of the profile T characters and of CU: debounce, dispatch and the control tick
(file 44_control_arbiter.md). A character's own row is what its rule writes; the debounce and the mode override that come
before it are T.ACCEPT's (R212).
-/
namespace Sys2Proof.Machine

/-! ## Profile T characters -/

/-- T.W: both channels Reverse, full speed (R214). -/
def tW (s : State) : State := { s.raise .ok with steer := .reverse }.runBoth false false false

/-- T.S: both channels Forward, full speed (R215). -/
def tS (s : State) : State := { s.raise .ok with steer := .forward }.runBoth true true false

/-- T.A: pivot left, reduced speed (R216). -/
def tA (s : State) : State := { s.raise .ok with steer := .left }.runBoth false true true

/-- T.D: pivot right, reduced speed (R217). -/
def tD (s : State) : State := { s.raise .ok with steer := .right }.runBoth true false true

/-- T.F: a timed fire, or REENTRANT while one is in progress (R218). -/
def tF (s : State) : State := if s.fireBusy then s.raise .reentrant else (s.raise .ok).fire

/-- T.R: enter Roam; the next roam step applies its decision whatever it is (R219). -/
def tR (s : State) : State := { s.raise .ok with mode := .roam, steer := .none }

/-- T.Q: stop (R220). -/
def tQ (s : State) : State := { s.raise .ok with steer := .stop }.stopAll

/-- T.OTHER: the Stop fallback (R221). -/
def tOther (s : State) : State := { s.raise .ok with steer := .stop }.stopAll

/-- T.W (R214). -/
def execTW (s : State) : Out := onBuild s (.next (tW s))

/-- T.S (R215). -/
def execTS (s : State) : Out := onBuild s (.next (tS s))

/-- T.A (R216). -/
def execTA (s : State) : Out := onBuild s (.next (tA s))

/-- T.D (R217). -/
def execTD (s : State) : Out := onBuild s (.next (tD s))

/-- T.F (R218). -/
def execTF (s : State) : Out := onBuild s (.next (tF s))

/-- T.R (R219). -/
def execTR (s : State) : Out := onBuild s (.next (tR s))

/-- T.Q (R220). -/
def execTQ (s : State) : Out := onBuild s (.next (tQ s))

/-- T.OTHER (R221). -/
def execTOther (_ch : Byte) (s : State) : Out := onBuild s (.next (tOther s))

/-! ## Debounce and dispatch -/

/-- The dispatch of an accepted character (R99, R212). -/
def dispatchT (ch : Byte) (s : State) : State :=
  if ch = 0x77 then tW s
  else if ch = 0x73 then tS s
  else if ch = 0x61 then tA s
  else if ch = 0x64 then tD s
  else if ch = 0x66 then tF s
  else if ch = 0x72 then tR s
  else if ch = 0x71 then tQ s
  else tOther s

/-- The debounce memory and the mode override of an accepted character, before its dispatch (R212). -/
def acceptChar (ch : Byte) (s : State) : State :=
  { s with lastChar := ch, lastValid := true, mode := if ch = 0x72 then s.mode else .manual }

/-- The debounce rule discards the character (R212, R244). -/
def debounced (ch : Byte) (s : State) : Bool := s.lastValid && ch == s.lastChar

/-- T.ACCEPT(ch) (R212). -/
def tAccept (ch : Byte) (s : State) : State :=
  if debounced ch s then s.raise .debounced else dispatchT ch (acceptChar ch s)

/-- T.ACCEPT (R212). -/
def execTAccept (ch : Byte) (s : State) : Out := onBuild s (.next (tAccept ch s))

/-! ## The control tick -/

/-- CU may begin a control tick: `CU_PH = READY`, which `SLEEP(t0)` becomes once `CTRL_PERIOD` passed (R210). -/
def cuAwake (s : State) : Bool :=
  match s.cuPh with
  | .ready => true
  | .sleep t0 => s.passed t0 s.cfg.ctrlPeriod
  | .pulse _ _ _ => false
  | .firing => false

/-- `CU_PH <- SLEEP(Now())` at the end of a tick; while an MD.PULSE of this tick is in progress its last stage does that
(R210). -/
def endTick (s : State) : State :=
  match s.cuPh with
  | .pulse _ _ _ => s
  | .sleep _ => { s with cuPh := .sleep s.ts }
  | .ready => { s with cuPh := .sleep s.ts }
  | .firing => { s with cuPh := .sleep s.ts }

/-- The first part of a profile T tick: one character, where there is one (R210). -/
def readChar (s : State) : State :=
  match s.rxPeek 0 with
  | some ch => tAccept ch (s.rxDrop 1)
  | none => s

/-- CU inside the roam step of a tick: the next read of its snapshot, or, with the last one, the decision and the end of the tick
(R188, R210, R222). -/
def roamMove (s : State) : State :=
  if s.snapAt = 4 then endTick { roamStep s with inTick := false } else { roamStep s with inTick := true }

/-- The second part of a profile T tick: nothing while a fire this tick began holds CU, else the roam step in Roam mode, from its
first read on, or the end of the tick (R210). -/
def roamAndSleep (s : State) : State :=
  if s.cuPh = .firing then s
  else if s.mode = .roam then roamMove { s with snapAt := 0 }
  else endTick s

/-- The body of CU.TICK (R210). -/
def tickBody (s : State) : State :=
  match s.cfg.profile with
  | .layoutA => endTick (sfFrame s)
  | .layoutB => endTick (sfFrame s)
  | .teleop => roamAndSleep (readChar s)

/-- CU.TICK (R210): the next move of a tick that is inside its roam step, or a tick from its start; a fire or an MD.PULSE in
progress, or a sleep that is not over, keeps CU out of the tick (R211, R228). -/
def cuTick (s : State) : State :=
  if s.inTick then roamMove s
  else if cuAwake s then tickBody { s with cuPh := .ready } else s

/-- CU.TICK (R210). -/
def execCuTick (s : State) : Out := onBuild s (.next (cuTick s))

end Sys2Proof.Machine
end

