-- ==== Sys2Proof/Machine/Env.lean ====
section
/-!
DEFINITION. The meanings of the environment's rows and of reset (R71, R260, R270).
-/
namespace Sys2Proof.Machine

/-- ENV.RXPUSH: the byte of the serial environment (R71). -/
def execEnvRxpush (b : Byte) (s : State) : Out := onBuild s (.next (s.rxPush b))

/-- ENV.ECHO(i): a level change on the port `ECHO[i]` (R100, R250, R260). -/
def execEnvEcho (i : Us) (level : Bool) (s : State) : Out :=
  onBuild s (.next { s with ports := { s.ports with echo := s.ports.echo.set i level } })

/-- RST: one clock of reset (R270). -/
def execRst (s : State) : Out := onBuild s (.next s.resetClock)

end Sys2Proof.Machine
end

