-- ==== Sys2Proof/Machine/Dispatch.lean ====
section
/-!
DEFINITION. The dispatcher: one arm per operation, each one direct call of its meaning.
-/
namespace Sys2Proof.Machine

def exec (i : Instr) (s : State) : Host.Outcome State Fault Refusal :=
  match i with
  | .laStop p t => Sys2Proof.Machine.execLaStop p t s
  | .laGun p t => Sys2Proof.Machine.execLaGun p t s
  | .laLeft p t => Sys2Proof.Machine.execLaLeft p t s
  | .laRight p t => Sys2Proof.Machine.execLaRight p t s
  | .laUnknown cmd p t => Sys2Proof.Machine.execLaUnknown cmd p t s
  | .laBadframe cmd p t => Sys2Proof.Machine.execLaBadframe cmd p t s
  | .lbBadframe cmd units t => Sys2Proof.Machine.execLbBadframe cmd units t s
  | .lbStopall units => Sys2Proof.Machine.execLbStopall units s
  | .lbGun units => Sys2Proof.Machine.execLbGun units s
  | .lbSetl units => Sys2Proof.Machine.execLbSetl units s
  | .lbSetr units => Sys2Proof.Machine.execLbSetr units s
  | .lbUnknown cmd units => Sys2Proof.Machine.execLbUnknown cmd units s
  | .tW => Sys2Proof.Machine.execTW s
  | .tS => Sys2Proof.Machine.execTS s
  | .tA => Sys2Proof.Machine.execTA s
  | .tD => Sys2Proof.Machine.execTD s
  | .tF => Sys2Proof.Machine.execTF s
  | .tR => Sys2Proof.Machine.execTR s
  | .tQ => Sys2Proof.Machine.execTQ s
  | .tOther ch => Sys2Proof.Machine.execTOther ch s
  | .sfFrame => Sys2Proof.Machine.execSfFrame s
  | .dispatchA f => Sys2Proof.Machine.execDispatchA f s
  | .dispatchB f => Sys2Proof.Machine.execDispatchB f s
  | .ptTick => Sys2Proof.Machine.execPtTick s
  | .ptSample k => Sys2Proof.Machine.execPtSample k s
  | .ptRise k => Sys2Proof.Machine.execPtRise k s
  | .ptFall k => Sys2Proof.Machine.execPtFall k s
  | .ptTrigall => Sys2Proof.Machine.execPtTrigall s
  | .ptSnapshot => Sys2Proof.Machine.execPtSnapshot s
  | .mdPulse c dir => Sys2Proof.Machine.execMdPulse c dir s
  | .mdHold c => Sys2Proof.Machine.execMdHold c s
  | .mdRun c dir divsel => Sys2Proof.Machine.execMdRun c dir divsel s
  | .mdSetvel c v => Sys2Proof.Machine.execMdSetvel c v s
  | .mdStopall => Sys2Proof.Machine.execMdStopall s
  | .mdFire => Sys2Proof.Machine.execMdFire s
  | .mdFireEnd => Sys2Proof.Machine.execMdFireEnd s
  | .mdPgStep c => Sys2Proof.Machine.execMdPgStep c s
  | .mdGunset level => Sys2Proof.Machine.execMdGunset level s
  | .rmDecide r => Sys2Proof.Machine.execRmDecide r s
  | .cuTick => Sys2Proof.Machine.execCuTick s
  | .tAccept ch => Sys2Proof.Machine.execTAccept ch s
  | .cuRoamstep => Sys2Proof.Machine.execCuRoamstep s
  | .applySteer cmd => Sys2Proof.Machine.execApplySteer cmd s
  | .envRxpush b => Sys2Proof.Machine.execEnvRxpush b s
  | .envEcho k level => Sys2Proof.Machine.execEnvEcho k level s
  | .rst => Sys2Proof.Machine.execRst s

end Sys2Proof.Machine
end

