-- ==== Sys2Proof/Machine/Clock.lean ====
section
/-!
DEFINITION. Who moves next. In the timed model the agents take their places in the fixed order of one clock (R249); in the
untimed model any enabled agent may move (R250, R259), and the plain list `schedule` says which, the order of R249 standing in
once the list is empty. The environment's acts come from the plain list `inputs`, one entry a clock (R260).
-/
namespace Sys2Proof.Machine

/-- What CU does when it moves: the next stage of an MD.PULSE in progress, or CU.TICK (R249 item 8, R250). -/
def cuInstr (s : State) : Instr :=
  match s.cuPh with
  | .pulse c _ _ => .mdPulse c (s.motor c).dir
  | .sleep _ => .cuTick
  | .ready => .cuTick
  | .firing => .cuTick

/-- The operation a move performs (R250). -/
def moveInstr (s : State) : Move → Instr
  | .tick => .ptTick
  | .sample i => .ptSample i
  | .trig => .ptTrigall
  | .cu => cuInstr s
  | .pg c => .mdPgStep c
  | .fireEnd => .mdFireEnd
  | .rxPush b => .envRxpush b
  | .echo i level => .envEcho i level
  | .reset => .rst

/-- The next place in the order of R249; after CU the next clock begins. -/
def Slot.next : Slot → Slot
  | .edge => .rx
  | .rx => .sample 0
  | .sample i => if h : i.val + 1 < 5 then .sample ⟨i.val + 1, h⟩ else .tick
  | .tick => .trig
  | .trig => .pg .left
  | .pg .left => .pg .right
  | .pg .right => .fire
  | .fire => .cu
  | .cu => .edge

/-- The port levels of the next clock: the environment's next entry, or a quiet clock that leaves the echo lines as they are
(R260). -/
def nextPorts (s : State) : Ports :=
  match s.inputs with
  | p :: _ => p
  | [] => { s.ports with rst := false, rxValid := false }

/-- The state at the next `CLK` edge, its ports read. -/
def atEdge (s : State) : State := { s with ports := nextPorts s, inputs := s.inputs.tail }

/-- The time a clock adds to the phase of the timebase, in units of 1 / `F_CLK` microseconds: a clock lasts 1 / `F_CLK` seconds. -/
def clockPhase (s : State) : Nat := s.tickPhase % s.cfg.fClk + ticksPerSecond

/-- The clock that begins counts the `TICK`s it completes: at `F_CLK` below 1 MHz more than one, above it one now and then (R249
item 4). The untimed model has no clock frequency, and its default round counts one (DESIGN CHOICE, log entry 7). -/
def countTicks (s : State) : State :=
  match s.cfg.timing with
  | .timed => { s with ticksDue := clockPhase s / s.cfg.fClk, tickPhase := clockPhase s % s.cfg.fClk }
  | .untimed => { s with ticksDue := 1 }

/-- The `CLK` edge (R249 item 1): with `RST = 1` the reset, and nothing else this clock; with `RST = 0` after a reset clock the
synchronizers take the port levels (R29; the choice of this clock is log entry 18), and the clock goes on. -/
def edgeTurn (s : State) : Out :=
  if (nextPorts s).rst then exec .rst (atEdge s)
  else if s.ports.rst then .next { countTicks (atEdge s).loadSync with slot := .rx }
  else .next { countTicks (atEdge s) with slot := .rx }

/-- The move a place of the clock makes, if any (R249 items 2 to 8). -/
def slotMove (s : State) : Slot → Option Move
  | .edge => none
  | .rx => if s.ports.rxValid then some (.rxPush s.ports.rxByte) else none
  | .sample i => some (.sample i)
  | .tick => if s.ticksDue = 0 then none else some .tick
  | .trig => some .trig
  | .pg c => some (.pg c)
  | .fire => some .fireEnd
  | .cu => some .cu

/-- The state in which a place of the clock makes its move: the next place is the next one of the order, but while more than one
`TICK` is due the timebase keeps its place and counts them one at a time (R249 item 4). -/
def leaveSlot (s : State) : State :=
  match s.slot with
  | .tick => if s.ticksDue ≤ 1 then { s with ticksDue := 0, slot := .trig } else { s with ticksDue := s.ticksDue - 1 }
  | slot => { s with slot := slot.next }

/-- One place of the clock (R249). CU's place lasts until the roam step of its tick is over: within one clock no other agent
moves between its reads (R204; DEDUCED, log entry 15). -/
def slotTurn (s : State) : Out :=
  if s.inTick then exec .cuTick s
  else
    match s.slot with
    | .edge => edgeTurn s
    | slot =>
      match slotMove s slot with
      | some m => exec (moveInstr s m) (leaveSlot s)
      | none => .next (leaveSlot s)

/-- One step of one agent: the schedule's next move in the untimed model, which also releases `RST` where it is still high
(`State.release`, log entry 18), else the next place of the clock. -/
def turn (s : State) : Out :=
  match s.cfg.timing, s.schedule with
  | .untimed, m :: rest => exec (moveInstr s m) { s.release with schedule := rest }
  | .untimed, [] => slotTurn s
  | .timed, _ => slotTurn s

/-- The state whose next step is a control tick that takes this command unit first: the build of its profile, the unit at the
head of an otherwise empty FIFO, CU ready and next to move in a clock with `RST = 0`, and no debounce memory that could discard
a character, and no tick in progress. -/
def placeUnit (s : State) (p : Profile) (bytes : List Byte) : State :=
  { s with
    cfg := { s.cfg with profile := p }
    ports := { s.ports with rst := false }
    rxq := bytes
    lastValid := false
    cuPh := .ready
    inTick := false
    schedule := []
    slot := .cu }

/-- `placeUnit` of a word of the opcode table; a width no profile has places nothing. -/
def placeTableWord (s : State) (nbits w : Nat) : State :=
  match tableProfile nbits with
  | some p => placeUnit s p (tableBytes p w)
  | none => s

end Sys2Proof.Machine
end

