-- ==== Sys2Proof/Machine/Step.lean ====
section
/-!
DEFINITION. One step of the block, and the state whose next step runs a given command unit.
-/
namespace Sys2Proof.Machine

/-- One step: one agent's next atomic step (R80, R250), in a build R9 admits. -/
def step (s : State) : Host.Outcome State Fault Refusal := onBuild s (turn s)

/-- The state whose very next step takes this word of the opcode table from the FIFO and runs it (R91, R210). -/
def State.withFetchWord (s : State) (nbits w : Nat) : State := placeTableWord s nbits w

end Sys2Proof.Machine
end

