-- ==== Sys2Proof/Machine/Flags.lean ====
section
/-!
DEFINITION. The packed views of the registers (R32, R39 to R41, R46), the codes their fields hold (R43, R240), the register
numbers that name them (R25), and the levels of the output ports (R20, R48). Nothing in the block reads a register by number:
these are what a test bench observes (R257). The block has no arithmetic condition codes; its status flags are the one-bit
fields of State (R49), written by the operations themselves.
-/
namespace Sys2Proof.Machine

/-- The code of a `MODE` value (R42). -/
def Mode.code : Mode → BitVec 1
  | .manual => 0
  | .roam => 1

/-- The code of a `STEER` value (R43). -/
def Steer.code : Steer → BitVec 3
  | .stop => 0
  | .forward => 1
  | .left => 2
  | .right => 3
  | .reverse => 4
  | .none => 7

/-- The code of a `LAST_RESULT` value (R240). -/
def Result.code : Result → BitVec 3
  | .none => 0
  | .ok => 1
  | .invalidFraming => 2
  | .unknownCommand => 3
  | .reentrant => 4
  | .debounced => 5
  | .stub => 6

/-- `MOTOR[c]`: EN, DIR, STEP, RUN and DIVSEL from bit 0 up; bits 7:5 read as 0 (R32). -/
def Motor.packed (m : Motor) : Byte :=
  0#3 ++ BitVec.ofBool m.divsel ++ BitVec.ofBool m.run ++ BitVec.ofBool m.step ++ BitVec.ofBool m.dir ++ BitVec.ofBool m.en

/-- `ACT`, reg 0x1A: bit 0 is `GUN` and bit 1 is `FIRE_BUSY` (R39, R40). -/
def State.actReg (s : State) : Byte := 0#6 ++ BitVec.ofBool s.fireBusy ++ BitVec.ofBool s.gun

/-- `CTRL`, reg 0x20 (R41). -/
def State.ctrlReg (s : State) : BitVec 16 :=
  s.lastChar ++ s.lastResult.code ++ BitVec.ofBool s.lastValid ++ s.steer.code ++ s.mode.code

/-- `RXSTAT`, reg 0x21: bit 0 is `RX_OVF`; bits 7:1 read as 0 (R46). -/
def State.rxstatReg (s : State) : Byte := 0#7 ++ BitVec.ofBool s.rxOvf

/-- Five one-bit levels as a word, channel `i` in bit `i` (R29, R30). -/
def packLevels (v : Levels) : BitVec 5 :=
  BitVec.ofBool v[4] ++ BitVec.ofBool v[3] ++ BitVec.ofBool v[2] ++ BitVec.ofBool v[1] ++ BitVec.ofBool v[0]

/-- The register a number names, as a test bench reads it; no value for a number no register has (R25). -/
def State.register (s : State) (n : Nat) : Option Nat :=
  match n with
  | 0x00 => some s.letT[0]
  | 0x01 => some s.letT[1]
  | 0x02 => some s.letT[2]
  | 0x03 => some s.letT[3]
  | 0x04 => some s.letT[4]
  | 0x08 => some s.lrt[0]
  | 0x09 => some s.lrt[1]
  | 0x0A => some s.lrt[2]
  | 0x0B => some s.lrt[3]
  | 0x0C => some s.lrt[4]
  | 0x10 => some s.ts
  | 0x11 => some ((packLevels s.echoQ)).toNat
  | 0x12 => some ((packLevels s.trig)).toNat
  | 0x18 => some (s.left.packed).toNat
  | 0x19 => some (s.right.packed).toNat
  | 0x1A => some (s.actReg).toNat
  | 0x20 => some (s.ctrlReg).toNat
  | 0x21 => some (s.rxstatReg).toNat
  | _ => none

/-- The level of an output port: the register of the same name, and for the enable pin the level R48 derives (R20). -/
def State.portLevel (s : State) : Pin → Bool
  | .trig i => s.trig[i]
  | .mEn c => enPin s.cfg (s.motor c).en
  | .mDir c => (s.motor c).dir
  | .mStep c => (s.motor c).step
  | .gun => s.gun

/-- The level of an output port after reset (R271). -/
def resetLevel (cfg : Config) : Pin → Bool
  | .trig _ => false
  | .mEn _ => enPin cfg cfg.profile.enReset
  | .mDir _ => false
  | .mStep _ => false
  | .gun => false

end Sys2Proof.Machine
end

