-- ==== Sys2Proof/Safety.lean ====
section
/-!
DEFINITION. What counts as a safe run, in the terms the statements use: the invariants of the block's prose rules, the output
trace read back as port levels, and the words in which results are said (a channel held, a channel running, a sleeping CU).
-/
namespace Sys2Proof.Machine

/-! ## Words of the statements -/

/-- The build is one R9 and R203 admit. -/
abbrev Admitted (s : State) : Prop := s.cfg.admitted = true

/-- CU is inside no MD.PULSE (R47). -/
def NotPulsing (s : State) : Prop :=
  match s.cuPh with
  | .pulse _ _ _ => False
  | _ => True

/-- The other motor channel. -/
def Channel.other : Channel → Channel
  | .left => .right
  | .right => .left

/-- `m` held: `EN = RUN = 0`, everything else kept (R153). -/
def Motor.held (m : Motor) : Motor := { m with en := false, run := false }

/-- `m` running: `EN = RUN = 1`, the direction and divisor given, the settle time restarted at `now` (R154). -/
def Motor.running (m : Motor) (dir divsel : Bool) (now : Nat) : Motor :=
  { m with en := true, run := true, dir := dir, divsel := divsel, settleT := now }

/-- The event of a level that changes from `old` to `new`: one event, or none where they agree (R21). -/
def onChange (pin : Pin) (old new : Bool) : List Emit := bif old == new then [] else [⟨pin, new⟩]

/-- What holding channel `c` adds to the trace (R48, R153). -/
def holdEvents (s : State) (c : Channel) : List Emit :=
  bif (s.motor c).en then [⟨.mEn c, s.cfg.enHoldLevel⟩] else []

/-- What running channel `c` in direction `dir` adds to the trace (R48, R154). -/
def runEvents (s : State) (c : Channel) (dir : Bool) : List Emit :=
  (bif (s.motor c).en then [] else [⟨.mEn c, !s.cfg.enHoldLevel⟩]) ++ onChange (.mDir c) (s.motor c).dir dir

/-- Both channels run: the motions of `w`, `s`, `a`, `d` and of a steering command (R214 to R217, R223). -/
def runningBoth (s : State) (dirLeft dirRight divsel : Bool) : State :=
  { s with
    left := s.left.running dirLeft divsel s.ts
    right := s.right.running dirRight divsel s.ts
    trace := s.trace ++ runEvents s .left dirLeft ++ runEvents s .right dirRight }

/-- Both channels held, and the gun deasserted only where `STOPALL_RETRACTS` (R156). -/
def stoppedAll (s : State) : State :=
  { s with
    left := s.left.held
    right := s.right.held
    gun := s.gun && !s.cfg.stopallRetracts
    trace := s.trace ++ holdEvents s .left ++ holdEvents s .right
      ++ (bif s.cfg.stopallRetracts then onChange .gun s.gun false else []) }

/-- `RST` released: the state in which the first scheduled move of an untimed run is made (R29, log entry 18). -/
def released (s : State) : State :=
  { s with
    ports := { s.ports with rst := false }
    echoQ := if s.ports.rst then s.ports.echo else s.echoQ
    sync1 := if s.ports.rst then s.ports.echo else s.sync1
    sync2 := if s.ports.rst then s.ports.echo else s.sync2 }

/-- Runs the operations of a list in order, as far as they answer a next state. -/
def runOps : List Instr → State → Out
  | [], s => .next s
  | i :: is, s =>
    match exec i s with
    | .next t => runOps is t
    | .fault r => .fault r
    | .refused r => .refused r

/-- The rising step edges of channel `c` in a piece of trace (R21). -/
def risingEdges (c : Channel) (tr : List Emit) : Nat := tr.count ⟨.mStep c, true⟩

/-! ## Invariants -/

/-- The receive FIFO holds at most `RX_DEPTH` bytes (R46, R70). -/
def FifoBounded (s : State) : Prop := s.rxq.length ≤ s.cfg.rxDepth

/-- At most one trigger is high, and it is the sequencer's (R186). -/
def TriggerMatchesSequencer (s : State) : Prop :=
  match s.tseq with
  | .high k _ => s.trig = (Vector.replicate 5 false).set k true
  | _ => s.trig = Vector.replicate 5 false

/-- A running channel is enabled (R36), and a step output is low inside a pulse generator's step (R38, R159). -/
def ChannelConsistent (m : Motor) : Prop := (m.run = true → m.en = true) ∧ (m.pgPh ≠ .high → m.step = false)

/-- Framed profiles never leave Manual, never steer, and keep no debounce memory (R139, R225). -/
def FramedKeepsReset (s : State) : Prop :=
  s.cfg.profile ≠ .teleop →
    s.mode = .manual ∧ s.steer = .none ∧ s.lastValid = false ∧ s.lastChar = 0x00 ∧ s.fireBusy = false

/-- CU is in `FIRING` exactly while `FIRE_BUSY = 1` (R47), and then the gun is asserted and both channels are held (R157). -/
def FiringConsistent (s : State) : Prop :=
  (s.cuPh = .firing ↔ s.fireBusy = true) ∧
    (s.fireBusy = true → s.gun = true ∧ ∀ c, (s.motor c).en = false ∧ (s.motor c).run = false)

/-- An MD.PULSE is in progress only in profile A, where no channel runs and no pulse generator is inside a step (R47, R152,
R161); and the step output is low in its second wait. -/
def PulseConsistent (s : State) : Prop :=
  (s.cfg.profile = .layoutA → ∀ c, (s.motor c).run = false ∧ (s.motor c).pgPh = .high) ∧
    (∀ c stage t0, s.cuPh = .pulse c stage t0 →
      s.cfg.profile = .layoutA ∧ (stage = .low → (s.motor c).step = false))

/-- Every time is a value of `TS_W` bits (R10, R26 to R28, R77). -/
structure TimesInRange (s : State) : Prop where
  ts : s.ts < 2 ^ s.cfg.tsW
  letT : ∀ i : Us, s.letT[i] < 2 ^ s.cfg.tsW
  lrt : ∀ i : Us, s.lrt[i] < 2 ^ s.cfg.tsW
  snap : ∀ i : Us, s.snap[i] < 2 ^ s.cfg.tsW
  fireT0 : s.fireT0 < 2 ^ s.cfg.tsW
  settleT : ∀ c, (s.motor c).settleT < 2 ^ s.cfg.tsW
  lastStepT : ∀ c, (s.motor c).lastStepT < 2 ^ s.cfg.tsW
  pgPh : ∀ c t0, (s.motor c).pgPh = .low t0 → t0 < 2 ^ s.cfg.tsW
  tseqSleep : ∀ t0, s.tseq = .sleep t0 → t0 < 2 ^ s.cfg.tsW
  tseqHigh : ∀ k t0, s.tseq = .high k t0 → t0 < 2 ^ s.cfg.tsW
  cuSleep : ∀ t0, s.cuPh = .sleep t0 → t0 < 2 ^ s.cfg.tsW
  cuPulse : ∀ c stage t0, s.cuPh = .pulse c stage t0 → t0 < 2 ^ s.cfg.tsW

/-- A snapshot is in progress exactly while CU is inside the roam step of a profile T tick, in Roam mode (R188, R210, R222). -/
def SnapshotConsistent (s : State) : Prop :=
  (s.inTick = true ↔ s.snapAt ≠ 0) ∧ (s.inTick = true → s.cuPh = .ready ∧ s.cfg.profile = .teleop ∧ s.mode = .roam)

/-- The invariant of the block. -/
structure BlockInvariant (s : State) : Prop where
  fifo : FifoBounded s
  trigger : TriggerMatchesSequencer s
  channels : ∀ c, ChannelConsistent (s.motor c)
  framed : FramedKeepsReset s
  firing : FiringConsistent s
  pulse : PulseConsistent s
  times : TimesInRange s
  snapshot : SnapshotConsistent s

/-! ## The output trace read back (R20, R21) -/

/-- Port levels after one event. -/
def levelsWith (levels : Pin → Bool) (e : Emit) : Pin → Bool :=
  fun p => if p = e.pin then e.level else levels p

/-- Port levels after a trace that began at `levels`. -/
def levelsAfter (levels : Pin → Bool) (tr : List Emit) : Pin → Bool := tr.foldl levelsWith levels

/-- Every event of the trace changes the level its port had (R21). -/
def OnlyChanges : (Pin → Bool) → List Emit → Prop
  | _, [] => True
  | levels, e :: tr => levels e.pin ≠ e.level ∧ OnlyChanges (levelsWith levels e) tr

/-- The trace is the sequence of the port changes since reset: every event is a change, and together they lead from the reset
levels to the levels the registers drive now (R20, R21, R271). -/
def TraceExact (s : State) : Prop :=
  OnlyChanges (resetLevel s.cfg) s.trace ∧ ∀ p, levelsAfter (resetLevel s.cfg) s.trace p = s.portLevel p

end Sys2Proof.Machine
end

