-- ==== Sys2Proof/Certificates/Slice0/Obligations.lean ====
section
/-!
DEFINITION. The statements for the provers. Each docstring names the rule of the spec it formalises. A statement of an
operation's result is an equation with the whole next state, so it is the operation's frame and its completion as well: every
register the equation does not name is unchanged. The block has no addressable memory (R72): the receive FIFO `rxq` is its only
byte store and stands in every equation like any register. Log entry <n> is notes/assumptions/<n>.md.
-/

open Sys2Proof Sys2Proof.Machine

/-! ## Encoding and decoding -/

/-- Decoding an encoded, well-formed command unit of the build's profile gives the operation back, with every operand at every
value, and leaves the bytes after it (R90 to R99). -/
def Obligations.DecodeInvertsEncode : Prop :=
  ∀ (cfg : Config) (i : Instr) (rest : List Byte), i.wf cfg = true → i.profile = some cfg.profile →
    decode cfg (encode cfg i ++ rest) = .ok (i, rest)

/-- R104: the decoder gives a row for every `N_FRAME` bytes, and that row is the only one the opcode maps allow. -/
def Obligations.EveryFrameHasExactlyOneRow : Prop :=
  ∀ (cfg : Config) (bytes : List Byte), bytes.length = cfg.profile.nFrame →
    ∃ i, decode cfg bytes = .ok (i, []) ∧
      ∀ j : Instr, (j.wf cfg = true ∧ j.profile = some cfg.profile ∧ encode cfg j = bytes) ↔ j = i

/-- Command units written out from the opcode maps decode to their rows (R97, R98, R99; the bytes are those of the spec's own
vectors in 95_test_vectors.md). -/
def Obligations.SampleFramesDecode : Prop :=
  decode (Config.default .layoutA) [0x02, 0x00, 0x00] = .ok (.laLeft 0x00 0x00, []) ∧
  decode (Config.default .layoutA) [0x03, 0x05, 0x0A] = .ok (.laRight 0x05 0x0A, []) ∧
  decode (Config.default .layoutB) [0x02, 0x05, 0x80, 0x0A] = .ok (.lbSetl 0x8005, []) ∧
  decode (Config.default .layoutB) [0x01, 0x01, 0x00, 0x0D] = .ok (.lbBadframe 0x01 0x0001 0x0D, []) ∧
  decode (Config.default .teleop) [0x72] = .ok (.tR, [])

/-- R73, R94: `units` of a Layout B frame is `{byte2, byte1}` where `UNITS_LE`, else `{byte1, byte2}`; the velocity is
`units - 32768` exactly, its range is exactly [-32768, 32767], and its 16-bit form is `units` with the top bit inverted (an
inference the spec marks as its own, R94). -/
def Obligations.UnitsAndVelocityAreExact : Prop :=
  (∀ (cfg : Config) (b0 b1 b2 b3 : Byte),
    (fbUnits cfg (frameB b0 b1 b2 b3)).toNat =
      if cfg.unitsLE then b2.toNat * 256 + b1.toNat else b1.toNat * 256 + b2.toNat) ∧
  (∀ u : Units16, velocity u = (u.toNat : Int) - 32768 ∧ -32768 ≤ velocity u ∧ velocity u ≤ 32767 ∧
    (u ^^^ 0x8000).toInt = velocity u) ∧
  ∀ v : Int, -32768 ≤ v → v ≤ 32767 → ∃ u : Units16, velocity u = v

/-! ## The build -/

/-- R9, R203: a build that breaks one of the constraints between parameters, or has any roam policy but Parity, is refused by
every operation and by `step`. -/
def Obligations.BrokenBuildsAreRefused : Prop :=
  ∀ s : State,
    (s.cfg.rxDepth < s.cfg.profile.nFrame ∨ s.cfg.divPivot ≤ 1 ∨ s.cfg.tSettle < 5 ∨ s.cfg.tTrig < 10 ∨ s.cfg.tsW < 1 ∨
      s.cfg.roamPolicy ≠ .parity) →
      (∀ i, exec i s = .refused .configNotAdmitted) ∧ step s = .refused .configNotAdmitted

/-! ## SF: the framer and the dispatchers -/

/-- R122: DISPATCH_A tests the terminator where the build checks it, then selects by `cmd`, and runs the selected command. -/
def Obligations.DispatchASelectsByCommand : Prop :=
  ∀ (s : State) (f : FrameA), Admitted s →
    let cmd := BitVec.ofNat 8 (f.toNat / 65536)
    let p := BitVec.ofNat 8 (f.toNat / 256)
    let tm := BitVec.ofNat 8 f.toNat
    ∃ t, exec (.dispatchA f) s = .next t ∧
      if s.cfg.laCheckTerm = true ∧ tm ≠ 0x0A then exec (.laBadframe cmd p tm) s = .next t
      else if cmd = 0x00 then exec (.laStop p tm) s = .next t
      else if cmd = 0x01 then exec (.laGun p tm) s = .next t
      else if cmd = 0x02 then exec (.laLeft p tm) s = .next t
      else if cmd = 0x03 then exec (.laRight p tm) s = .next t
      else exec (.laUnknown cmd p tm) s = .next t

/-- R123: DISPATCH_B tests the terminator first, then selects by `cmd`, and runs the selected command on `units`. -/
def Obligations.DispatchBTestsTerminatorFirst : Prop :=
  ∀ (s : State) (f : FrameB), Admitted s →
    let cmd := BitVec.ofNat 8 (f.toNat / 16777216)
    let b1 := f.toNat / 65536 % 256
    let b2 := f.toNat / 256 % 256
    let units := BitVec.ofNat 16 (if s.cfg.unitsLE then b2 * 256 + b1 else b1 * 256 + b2)
    let tm := BitVec.ofNat 8 f.toNat
    ∃ t, exec (.dispatchB f) s = .next t ∧
      if tm ≠ 0x0A then exec (.lbBadframe cmd units tm) s = .next t
      else if cmd = 0x00 then exec (.lbStopall units) s = .next t
      else if cmd = 0x01 then exec (.lbGun units) s = .next t
      else if cmd = 0x02 then exec (.lbSetl units) s = .next t
      else if cmd = 0x03 then exec (.lbSetr units) s = .next t
      else exec (.lbUnknown cmd units) s = .next t

/-- R120: with fewer than `N_FRAME` bytes the framer changes nothing; otherwise it consumes exactly one frame and runs the
command the frame decodes to. -/
def Obligations.FramerTakesOneFrameOrNothing : Prop :=
  ∀ s : State, Admitted s → s.cfg.profile ≠ .teleop →
    (s.rxq.length < s.cfg.profile.nFrame → exec .sfFrame s = .next s) ∧
    (s.cfg.profile.nFrame ≤ s.rxq.length →
      ∃ i t, decode s.cfg (s.rxq.take s.cfg.profile.nFrame) = .ok (i, []) ∧
        exec i { s with rxq := s.rxq.drop s.cfg.profile.nFrame } = .next t ∧ exec .sfFrame s = .next t)

/-- R241: a frame with a bad terminator is consumed and only LAST_RESULT is written; profile A tests it only where
`LA_CHECK_TERM`. -/
def Obligations.InvalidFramingConsumesAndRecords : Prop :=
  ∀ (s : State) (rest : List Byte) (b0 b1 b2 b3 : Byte), Admitted s →
    (s.cfg.profile = .layoutB → s.rxq = b0 :: b1 :: b2 :: b3 :: rest → b3 ≠ 0x0A →
      exec .sfFrame s = .next { s with rxq := rest, lastResult := .invalidFraming }) ∧
    (s.cfg.profile = .layoutA → s.rxq = b0 :: b1 :: b2 :: rest →
      (s.cfg.laCheckTerm = true → b2 ≠ 0x0A →
        exec .sfFrame s = .next { s with rxq := rest, lastResult := .invalidFraming }) ∧
      (s.cfg.laCheckTerm = false →
        ∃ t, exec .sfFrame s = .next t ∧ t.lastResult ≠ .invalidFraming))

/-- R242: a frame that passes the terminator test and has `cmd` outside 0 to 3 is consumed and only LAST_RESULT is written. -/
def Obligations.UnknownCommandConsumesAndRecords : Prop :=
  ∀ (s : State) (rest : List Byte) (b0 b1 b2 : Byte), Admitted s → 4 ≤ b0.toNat →
    (s.cfg.profile = .layoutB → s.rxq = b0 :: b1 :: b2 :: 0x0A :: rest →
      exec .sfFrame s = .next { s with rxq := rest, lastResult := .unknownCommand }) ∧
    (s.cfg.profile = .layoutA → s.rxq = b0 :: b1 :: b2 :: rest → (s.cfg.laCheckTerm = true → b2 = 0x0A) →
      exec .sfFrame s = .next { s with rxq := rest, lastResult := .unknownCommand })

/-- R245: a Layout A stub is consumed and only LAST_RESULT is written, whatever the parameter and the terminator are. -/
def Obligations.StubConsumesAndRecords : Prop :=
  ∀ (s : State) (rest : List Byte) (b0 b1 b2 : Byte), Admitted s → b0 = 0x00 ∨ b0 = 0x01 →
    s.cfg.profile = .layoutA → s.rxq = b0 :: b1 :: b2 :: rest → (s.cfg.laCheckTerm = true → b2 = 0x0A) →
      exec .sfFrame s = .next { s with rxq := rest, lastResult := .stub }

/-- The rows that only record a result write LAST_RESULT and nothing else: the two Layout A stubs, the unknown commands and the
bad frames of both layouts (R127, R128, R129, R132, R133, R138). -/
def Obligations.RecordingRowsWriteOnlyTheResult : Prop :=
  ∀ (s : State) (cmd p tm : Byte) (u : Units16), Admitted s →
    exec (.laStop p tm) s = .next { s with lastResult := .stub } ∧
    exec (.laGun p tm) s = .next { s with lastResult := .stub } ∧
    exec (.laUnknown cmd p tm) s = .next { s with lastResult := .unknownCommand } ∧
    exec (.laBadframe cmd p tm) s = .next { s with lastResult := .invalidFraming } ∧
    exec (.lbUnknown cmd u) s = .next { s with lastResult := .unknownCommand } ∧
    exec (.lbBadframe cmd u tm) s = .next { s with lastResult := .invalidFraming }

/-- LA.LEFT and LA.RIGHT record OK and begin one pulse on their channel, High for `p = 0` and Low for any other `p`; the other
channel and the enable, run and divisor bits stay (R130, R131, R95, first stage of R152). That the command is CU's move up to the
pulse's first wait is the model's reading (log entry 33). -/
def Obligations.LayoutAStepBeginsPulse : Prop :=
  ∀ (s : State) (p tm : Byte), Admitted s →
    exec (.laLeft p tm) s = .next { s with
      lastResult := .ok
      left := { s.left with dir := decide (p = 0), settleT := s.ts }
      cuPh := .pulse .left .settle s.ts
      trace := s.trace ++ onChange (.mDir .left) s.left.dir (decide (p = 0)) } ∧
    exec (.laRight p tm) s = .next { s with
      lastResult := .ok
      right := { s.right with dir := decide (p = 0), settleT := s.ts }
      cuPh := .pulse .right .settle s.ts
      trace := s.trace ++ onChange (.mDir .right) s.right.dir (decide (p = 0)) }

/-- LB.SETL and LB.SETR: `units = 0x8000` holds the channel, any other value runs it at full speed in the direction of
`units - 32768`, whatever the magnitude; the other channel stays (R124, R136, R137). -/
def Obligations.LayoutBSetsChannelVelocity : Prop :=
  ∀ (s : State) (u : Units16) (c : Channel), Admitted s →
    let i : Instr := match c with
      | .left => .lbSetl u
      | .right => .lbSetr u
    (u = 0x8000 → exec i s = .next { s.setMotor c (s.motor c).held with
      lastResult := .ok, trace := s.trace ++ holdEvents s c }) ∧
    (u ≠ 0x8000 → exec i s = .next { s.setMotor c ((s.motor c).running (decide (0x8000 < u.toNat)) false s.ts) with
      lastResult := .ok, trace := s.trace ++ runEvents s c (decide (0x8000 < u.toNat)) })

/-- LB.GUN sets the gun to the level `units = 1`, with no timer and no hold; MD.GUNSET sets it to its operand (R135, R165). -/
def Obligations.GunCommandsSetALevel : Prop :=
  ∀ (s : State) (u : Units16) (level : Bool), Admitted s →
    exec (.lbGun u) s = .next { s with
      lastResult := .ok, gun := decide (u = 1), trace := s.trace ++ onChange .gun s.gun (decide (u = 1)) } ∧
    exec (.mdGunset level) s = .next { s with gun := level, trace := s.trace ++ onChange .gun s.gun level }

/-- MD.STOPALL and the commands that stop (LB.STOPALL, T.Q, T.OTHER) hold both channels and leave the gun unless
`STOPALL_RETRACTS`; the characters also set STEER to Stop (R134, R156, R220, R221). -/
def Obligations.StopCommandsHoldBothChannels : Prop :=
  ∀ (s : State) (u : Units16) (ch : Byte), Admitted s →
    exec .mdStopall s = .next (stoppedAll s) ∧
    exec (.lbStopall u) s = .next (stoppedAll { s with lastResult := .ok }) ∧
    exec .tQ s = .next (stoppedAll { s with lastResult := .ok, steer := .stop }) ∧
    exec (.tOther ch) s = .next (stoppedAll { s with lastResult := .ok, steer := .stop })

/-! ## MD: the motor actuator -/

/-- R153, R154: MD.HOLD and MD.RUN, on either channel, as whole next states. -/
def Obligations.HoldAndRunWriteOneChannel : Prop :=
  ∀ (s : State) (c : Channel) (dir divsel : Bool), Admitted s →
    exec (.mdHold c) s = .next { s.setMotor c (s.motor c).held with trace := s.trace ++ holdEvents s c } ∧
    exec (.mdRun c dir divsel) s = .next { s.setMotor c ((s.motor c).running dir divsel s.ts) with
      trace := s.trace ++ runEvents s c dir }

/-- R155: MD.SETVEL holds at 0 and otherwise runs at full speed in the direction of the sign, whatever the magnitude. -/
def Obligations.SetVelocityUsesOnlyTheSign : Prop :=
  ∀ (s : State) (c : Channel) (v : Int), Admitted s →
    ∃ t, exec (.mdSetvel c v) s = .next t ∧
      (v = 0 → exec (.mdHold c) s = .next t) ∧
      (0 < v → exec (.mdRun c true false) s = .next t) ∧
      (v < 0 → exec (.mdRun c false false) s = .next t)

/-- R152: MD.PULSE sets the direction, waits out the settle time, drives the step output low, waits out the low time and drives
it high: exactly one rising edge, with no other register of the channel touched. `w1` and `w2` are the times at which CU moves
again. That one run takes one stage, and none while a wait runs (log entry 12), that the last stage ends the control tick, so CU
sleeps (R210, log entry 30), and that the later runs' own operands `d1` and `d2` do not count (log entry 32), is the model's. -/
def Obligations.PulseEmitsOneRisingEdge : Prop :=
  ∀ (s : State) (c : Channel) (dir d1 d2 : Bool) (w1 w2 : Nat), Admitted s → NotPulsing s →
    ∃ t1, exec (.mdPulse c dir) s = .next t1 ∧
      t1 = { s.setMotor c { s.motor c with dir := dir, settleT := s.ts } with
        cuPh := .pulse c .settle s.ts, trace := s.trace ++ onChange (.mDir c) (s.motor c).dir dir } ∧
      (({ t1 with ts := w1 }).passed s.ts s.cfg.tSettle = false →
        exec (.mdPulse c d1) { t1 with ts := w1 } = .next { t1 with ts := w1 }) ∧
      (({ t1 with ts := w1 }).passed s.ts s.cfg.tSettle = true →
        ∃ t2, exec (.mdPulse c d1) { t1 with ts := w1 } = .next t2 ∧ (t2.motor c).step = false ∧
          (({ t2 with ts := w2 }).passed w1 s.cfg.tStepLow = false →
            exec (.mdPulse c d2) { t2 with ts := w2 } = .next { t2 with ts := w2 }) ∧
          (({ t2 with ts := w2 }).passed w1 s.cfg.tStepLow = true →
            exec (.mdPulse c d2) { t2 with ts := w2 } =
              .next { s.setMotor c { s.motor c with dir := dir, settleT := s.ts, step := true } with
                ts := w2
                cuPh := .sleep w2
                trace := s.trace ++ onChange (.mDir c) (s.motor c).dir dir ++
                  onChange (.mStep c) (s.motor c).step false ++ [⟨.mStep c, true⟩] }))

/-- R157, R164: MD.FIRE holds both channels, asserts the gun, starts the timer and blocks CU. That a call while a fire is in
progress stops with a fault is the model's choice (log entry 13). -/
def Obligations.FireStartsOnce : Prop :=
  ∀ s : State, Admitted s →
    (s.fireBusy = false → exec .mdFire s = .next { s with
      left := s.left.held
      right := s.right.held
      gun := true
      fireBusy := true
      fireT0 := s.ts
      cuPh := .firing
      trace := s.trace ++ holdEvents s .left ++ holdEvents s .right ++ onChange .gun s.gun true }) ∧
    (s.fireBusy = true → exec .mdFire s = .fault .fireWhileBusy)

/-- R158: MD.FIRE_END, once the fire is over, deasserts the gun, clears the flag and lets CU sleep. That it does nothing while it is
not enabled is the model's reading (log entry 12). -/
def Obligations.FireEndReleasesControl : Prop :=
  ∀ s : State, Admitted s →
    (s.fireBusy = true → s.passed s.fireT0 s.cfg.fireDuration = true → exec .mdFireEnd s = .next { s with
      gun := false, fireBusy := false, cuPh := .sleep s.ts, trace := s.trace ++ onChange .gun s.gun false }) ∧
    (s.fireBusy = false ∨ s.passed s.fireT0 s.cfg.fireDuration = false → exec .mdFireEnd s = .next s)

/-- R159: the two half-steps of the pulse generator with their enabling conditions. That a move changes nothing where neither is
enabled is the model's reading (log entry 12). -/
def Obligations.PulseGeneratorHalfSteps : Prop :=
  ∀ (s : State) (c : Channel), Admitted s →
    let m := s.motor c
    let period := s.cfg.basePeriod * (if m.divsel then s.cfg.divPivot else 1)
    (m.pgPh = .high →
      (m.run = true ∧ s.passed m.settleT s.cfg.tSettle = true ∧ s.passed m.lastStepT period = true →
        exec (.mdPgStep c) s = .next { s.setMotor c { m with step := false, pgPh := .low s.ts } with
          trace := s.trace ++ onChange (.mStep c) m.step false }) ∧
      (¬(m.run = true ∧ s.passed m.settleT s.cfg.tSettle = true ∧ s.passed m.lastStepT period = true) →
        exec (.mdPgStep c) s = .next s)) ∧
    ∀ t0, m.pgPh = .low t0 →
      (s.passed t0 s.cfg.tStepLow = true ∧ s.passed m.settleT s.cfg.tSettle = true →
        exec (.mdPgStep c) s = .next { s.setMotor c { m with step := true, pgPh := .high, lastStepT := s.ts } with
          trace := s.trace ++ onChange (.mStep c) m.step true }) ∧
      (¬(s.passed t0 s.cfg.tStepLow = true ∧ s.passed m.settleT s.cfg.tSettle = true) →
        exec (.mdPgStep c) s = .next s)

/-- R161: a step that has begun is not cut short by MD.HOLD, MD.FIRE, MD.RUN, MD.SETVEL or MD.STOPALL: the generator stays in its
low phase, and once both waits are over it completes with the rising edge. -/
def Obligations.StartedStepCompletes : Prop :=
  ∀ (s t : State) (c d : Channel) (dir divsel : Bool) (v : Int) (t0 : Nat) (i : Instr),
    (s.motor c).pgPh = .low t0 → (s.motor c).step = false →
    i = .mdHold d ∨ i = .mdRun d dir divsel ∨ i = .mdSetvel d v ∨ i = .mdStopall ∨ i = .mdFire →
    exec i s = .next t →
      (t.motor c).pgPh = .low t0 ∧ (t.motor c).step = false ∧
      (t.passed t0 t.cfg.tStepLow = true → t.passed (t.motor c).settleT t.cfg.tSettle = true →
        ∃ u, exec (.mdPgStep c) t = .next u ∧ (u.motor c).step = true ∧ u.trace = t.trace ++ [⟨.mStep c, true⟩])

/-! ## PT: the pulse timer -/

/-- R180: PT.TICK adds one modulo `2^TS_W` and writes nothing else. -/
def Obligations.TickCountsModulo : Prop :=
  ∀ s : State, Admitted s → exec .ptTick s = .next { s with ts := (s.ts + 1) % 2 ^ s.cfg.tsW }

/-- R182, R183: PT.RISE stores the time, PT.FALL the difference modulo `2^TS_W`, each in its own channel's register only. -/
def Obligations.CaptureWritesOwnRegister : Prop :=
  ∀ (s : State) (i : Us), Admitted s →
    exec (.ptRise i) s = .next { s with letT := s.letT.set i s.ts } ∧
    ∃ d : Nat, exec (.ptFall i) s = .next { s with lrt := s.lrt.set i d } ∧
      (d : Int) = ((s.ts : Int) - (s.letT[i] : Int)) % 2 ^ s.cfg.tsW

/-- R184: a rising edge, `n` ticks and a falling edge store `n` modulo `2^TS_W`, exact across a wrap of the timebase, and
whatever the channel held before is overwritten. The timebase holds a value of its width (TimesInRange). -/
def Obligations.RoundTripIsExact : Prop :=
  ∀ (s : State) (i : Us) (n : Nat), Admitted s → s.ts < 2 ^ s.cfg.tsW →
    runOps ([.ptRise i] ++ List.replicate n .ptTick ++ [.ptFall i]) s =
      .next { s with
        ts := (s.ts + n) % 2 ^ s.cfg.tsW
        letT := s.letT.set i s.ts
        lrt := s.lrt.set i (n % 2 ^ s.cfg.tsW) }

/-- R181: PT.SAMPLE shifts the synchronizer of its channel, and captures exactly where the stage that leaves it differs from
ECHO_Q: a rise writes LET, a fall writes LRT. -/
def Obligations.SampleShiftsAndCaptures : Prop :=
  ∀ (s : State) (i : Us), Admitted s →
    let u : State := { s with sync1 := s.sync1.set i s.ports.echo[i], sync2 := s.sync2.set i s.sync1[i] }
    (s.sync2[i] = s.echoQ[i] → exec (.ptSample i) s = .next u) ∧
    (s.sync2[i] = true → s.echoQ[i] = false →
      exec (.ptSample i) s = .next { u with echoQ := s.echoQ.set i true, letT := s.letT.set i s.ts }) ∧
    (s.sync2[i] = false → s.echoQ[i] = true →
      exec (.ptSample i) s =
        .next { u with echoQ := s.echoQ.set i false, lrt := s.lrt.set i (timeSub s.cfg.tsW s.ts s.letT[i]) })

/-- R181: an edge at the port, rising or falling, is captured at the third sample: the first two only shift, whatever time passes
between them, and the third writes LET of a rise and LRT of a fall. -/
def Obligations.EdgeCapturedAtThirdSample : Prop :=
  ∀ (s : State) (i : Us) (level : Bool) (n m : Nat), Admitted s → s.ts < 2 ^ s.cfg.tsW →
    s.sync1[i] = !level → s.sync2[i] = !level → s.echoQ[i] = !level → s.ports.echo[i] = level →
    ∃ t u, runOps ([.ptSample i] ++ List.replicate n .ptTick ++ [.ptSample i] ++ List.replicate m .ptTick) s = .next t ∧
      t.letT = s.letT ∧ t.lrt = s.lrt ∧ t.ts = (s.ts + (n + m)) % 2 ^ s.cfg.tsW ∧
      exec (.ptSample i) t = .next u ∧
      (level = true → u.letT = s.letT.set i t.ts ∧ u.lrt = s.lrt) ∧
      (level = false → u.letT = s.letT ∧ u.lrt = s.lrt.set i (timeSub s.cfg.tsW t.ts s.letT[i]))

/-- R186: the atomic steps of the trigger sequencer: it raises channel 0 after its sleep, and after each channel's `T_TRIG` lowers
that channel and raises the next, or goes to sleep after channel 4. That it writes nothing while a wait runs is the model's
reading (log entry 12). -/
def Obligations.TriggerSequencerSteps : Prop :=
  ∀ s : State, Admitted s →
    (s.tseq = .sleepOver → exec .ptTrigall s = .next { s with
      trig := s.trig.set 0 true, tseq := .high 0 s.ts, trace := s.trace ++ onChange (.trig 0) s.trig[0] true }) ∧
    (∀ t0, s.tseq = .sleep t0 →
      (s.passed t0 s.cfg.rangePeriod = true → exec .ptTrigall s = .next { s with
        trig := s.trig.set 0 true, tseq := .high 0 s.ts, trace := s.trace ++ onChange (.trig 0) s.trig[0] true }) ∧
      (s.passed t0 s.cfg.rangePeriod = false → exec .ptTrigall s = .next s)) ∧
    (∀ k t0, s.tseq = .high k t0 →
      (s.passed t0 s.cfg.tTrig = false → exec .ptTrigall s = .next s) ∧
      (s.passed t0 s.cfg.tTrig = true → k = 4 → exec .ptTrigall s = .next { s with
        trig := s.trig.set 4 false, tseq := .sleep s.ts, trace := s.trace ++ onChange (.trig 4) s.trig[4] false }) ∧
      (s.passed t0 s.cfg.tTrig = true → ∀ j : Us, j.val = k.val + 1 → exec .ptTrigall s = .next { s with
        trig := (s.trig.set k false).set j true
        tseq := .high j s.ts
        trace := s.trace ++ onChange (.trig k) s.trig[k] false ++ onChange (.trig j) s.trig[j] true }))

/-- R186, untimed: one ranging iteration from rest pulses the five triggers once each, in ascending order and one at a time, and
touches nothing else. It takes six moves, one for each atomic step (log entry 12). -/
def Obligations.RangingIterationPulsesInOrder : Prop :=
  ∀ s : State, Admitted s → s.cfg.timing = .untimed → TriggerMatchesSequencer s →
    (∀ k t0, s.tseq ≠ .high k t0) →
    runOps (List.replicate 6 .ptTrigall) s = .next { s with
      tseq := .sleep s.ts
      trace := s.trace ++ [⟨.trig 0, true⟩, ⟨.trig 0, false⟩, ⟨.trig 1, true⟩, ⟨.trig 1, false⟩, ⟨.trig 2, true⟩,
        ⟨.trig 2, false⟩, ⟨.trig 3, true⟩, ⟨.trig 3, false⟩, ⟨.trig 4, true⟩, ⟨.trig 4, false⟩] }

/-- R188, R81, R281: PT.SNAPSHOT reads the five round-trip times one at a time, in ascending order, and returns them with the last
read; it writes no register of the block. Alone it returns LRT; where a falling edge of channel `j` is captured after `n` of the
reads, `r[j]` is the new value if it was still to be read and the old one if not, and the other four stay. The fields that hold
the reads and what is returned are the model's (log entries 15, 16). -/
def Obligations.SnapshotReturnsReadings : Prop :=
  ∀ s : State, Admitted s →
    (s.snapAt ≠ 4 → exec .ptSnapshot s = .next { s with
      snap := s.snap.set s.snapAt s.lrt[s.snapAt], snapAt := s.snapAt + 1 }) ∧
    (s.snapAt = 4 → exec .ptSnapshot s = .next { s with
      snap := s.snap.set 4 s.lrt[4], snapAt := 0, ret := some (.readings (s.snap.set 4 s.lrt[4])) }) ∧
    (s.snapAt = 0 →
      runOps (List.replicate 5 .ptSnapshot) s = .next { s with snap := s.lrt, ret := some (.readings s.lrt) } ∧
      ∀ (j : Us) (n : Nat), n ≤ 5 →
        ∃ t r, runOps (List.replicate n .ptSnapshot ++ [.ptFall j] ++ List.replicate (5 - n) .ptSnapshot) s = .next t ∧
          t.ret = some (.readings r) ∧ t.snap = r ∧ t.snapAt = 0 ∧
          r[j] = (if n ≤ j.val then timeSub s.cfg.tsW s.ts s.letT[j] else s.lrt[j]) ∧
          ∀ i : Us, i ≠ j → r[i] = s.lrt[i])

/-- R27, R28, R52: over all operations, `LET[k]` is written only by the rising-edge capture of channel `k`, `LRT[k]` only by its
falling-edge capture, and both by reset. -/
def Obligations.CaptureRegistersHaveOneWriter : Prop :=
  ∀ (i : Instr) (s t : State) (k : Us), exec i s = .next t →
    (t.letT[k] ≠ s.letT[k] → i = .ptRise k ∨ (i = .ptSample k ∧ s.sync2[k] = true ∧ s.echoQ[k] = false) ∨ i = .rst) ∧
    (t.lrt[k] ≠ s.lrt[k] → i = .ptFall k ∨ (i = .ptSample k ∧ s.sync2[k] = false ∧ s.echoQ[k] = true) ∨ i = .rst)

/-! ## RM: the roam decision -/

/-- R200, R201, R202: RM.DECIDE returns Right exactly where the centre reading is below `WALL_LIMIT`, Forward otherwise, for every
value of the other four readings, and writes no register. The field that holds what it returns is the model's (log entry 16). -/
def Obligations.DecideComparesOnlyTheCentre : Prop :=
  ∀ (s : State) (r : Readings), Admitted s →
    exec (.rmDecide r) s = .next { s with
      ret := some (.steering (if r[center] < s.cfg.wallLimit then .right else .forward)) }

/-- R201, R202, R281: nothing a control tick does, in any of its moves, depends on the four side readings, in LRT or in the snapshot
in progress. -/
def Obligations.SideReadingsNeverMatter : Prop :=
  ∀ (s : State) (v w : Readings), Admitted s → v[center] = s.lrt[center] → w[center] = s.snap[center] →
    ∃ t x, exec .cuTick s = .next t ∧ exec .cuTick { s with lrt := v, snap := w } = .next { t with lrt := v, snap := x } ∧
      x[center] = t.snap[center]

/-! ## CU: characters, modes, the control tick -/

/-- T.W, T.S, T.A and T.D run both channels in their motion and set STEER (R214 to R217). -/
def Obligations.MotionCharactersRunBothChannels : Prop :=
  ∀ s : State, Admitted s →
    exec .tW s = .next (runningBoth { s with lastResult := .ok, steer := .reverse } false false false) ∧
    exec .tS s = .next (runningBoth { s with lastResult := .ok, steer := .forward } true true false) ∧
    exec .tA s = .next (runningBoth { s with lastResult := .ok, steer := .left } false true true) ∧
    exec .tD s = .next (runningBoth { s with lastResult := .ok, steer := .right } true false true)

/-- T.F starts a timed fire, or reports REENTRANT and does nothing else while one is in progress; T.R enters Roam with STEER at
None and writes no motor field (R218, R219). -/
def Obligations.FireAndRoamCharacters : Prop :=
  ∀ s : State, Admitted s →
    (s.fireBusy = true → exec .tF s = .next { s with lastResult := .reentrant }) ∧
    (s.fireBusy = false → exec .tF s = .next { s with
      lastResult := .ok
      left := s.left.held
      right := s.right.held
      gun := true
      fireBusy := true
      fireT0 := s.ts
      cuPh := .firing
      trace := s.trace ++ holdEvents s .left ++ holdEvents s .right ++ onChange .gun s.gun true }) ∧
    exec .tR s = .next { s with lastResult := .ok, mode := .roam, steer := .none }

/-- R212: T.ACCEPT discards a character equal to the last accepted one and records only DEBOUNCED; any other character becomes the
last accepted one, forces Manual unless it is `r`, and is dispatched. -/
def Obligations.AcceptDebouncesThenDispatches : Prop :=
  ∀ (s : State) (ch : Byte), Admitted s →
    (s.lastValid = true → ch = s.lastChar → exec (.tAccept ch) s = .next { s with lastResult := .debounced }) ∧
    (s.lastValid = false ∨ ch ≠ s.lastChar →
      ∃ t, exec (.tAccept ch) s = .next t ∧
        exec (decodeT ch) { s with
          lastChar := ch, lastValid := true, mode := if ch = 0x72 then s.mode else .manual } = .next t)

/-- R213: a character fed twice in a row is dispatched once (where it was not the last accepted one already) and then has no effect
but the result code; fed again after a different accepted character it is dispatched again. -/
def Obligations.RepeatIsDebouncedUnlessInterrupted : Prop :=
  ∀ (s : State) (ch other : Byte), Admitted s → other ≠ ch →
    ∃ t u, exec (.tAccept ch) s = .next t ∧
      (s.lastValid = false ∨ ch ≠ s.lastChar → exec (decodeT ch) (acceptChar ch s) = .next t) ∧
      exec (.tAccept ch) t = .next { t with lastResult := .debounced } ∧
      exec (.tAccept other) t = .next u ∧ exec (decodeT other) (acceptChar other t) = .next u ∧
      ∃ v, exec (.tAccept ch) u = .next v ∧ exec (decodeT ch) (acceptChar ch u) = .next v

/-- R210: the control tick. It begins at READY, or at a SLEEP that is over. In the framed profiles it is one framer step and then the
sleep, but where LA.LEFT or LA.RIGHT began a pulse CU stays in it and sleeps after its last stage (log entries 30, 33). In profile
T it is one character if there is one, then, unless that started a fire, the sleep in Manual and the roam step in Roam: its first
read now, the others in CU's next moves, and the sleep with the last (R188, log entry 15). That the end of the sleep and the
beginning of the tick are one move is the model's reading (log entry 11). -/
def Obligations.ControlTickFollowsItsRule : Prop :=
  ∀ s : State, Admitted s →
    (s.inTick = false → s.cuPh = .ready ∨ (∃ t0, s.cuPh = .sleep t0 ∧ s.passed t0 s.cfg.ctrlPeriod = true) →
      let r : State := { s with cuPh := .ready }
      (s.cfg.profile ≠ .teleop →
        ∃ t, exec .sfFrame r = .next t ∧
          exec .cuTick s = .next (if t.cuPh = .ready then { t with cuPh := .sleep t.ts } else t)) ∧
      (s.cfg.profile = .teleop →
        ∃ t, (s.rxq = [] → t = r) ∧
          (∀ ch rest, s.rxq = ch :: rest → exec (.tAccept ch) { r with rxq := rest } = .next t) ∧
          (t.cuPh = .firing → exec .cuTick s = .next t) ∧
          (t.cuPh ≠ .firing → t.mode = .manual → exec .cuTick s = .next { t with cuPh := .sleep t.ts }) ∧
          (t.cuPh ≠ .firing → t.mode = .roam →
            exec .cuTick s = .next { t with snap := t.snap.set 0 t.lrt[0], snapAt := 1, inTick := true }))) ∧
    (s.inTick = true → s.cuPh = .ready →
      ∃ u, exec .cuRoamstep s = .next u ∧
        (s.snapAt ≠ 4 → exec .cuTick s = .next { u with inTick := true }) ∧
        (s.snapAt = 4 → exec .cuTick s = .next { u with inTick := false, cuPh := .sleep u.ts }))

/-- R210, R211, R228: no tick while a fire or an MD.PULSE is in progress, or before the sleep is over. That CU.TICK then changes
nothing is the model's reading (log entry 12). -/
def Obligations.BusyControlUnitTakesNoTick : Prop :=
  ∀ s : State, Admitted s → s.inTick = false →
    (s.cuPh = .firing ∨ (∃ c stage t0, s.cuPh = .pulse c stage t0) ∨
      ∃ t0, s.cuPh = .sleep t0 ∧ s.passed t0 s.cfg.ctrlPeriod = false) →
    exec .cuTick s = .next s

/-- R222, R188: the roam step reads the five round-trip times one at a time, and with the last read applies RM's decision on the
centre reading of that snapshot where it differs from STEER, and otherwise writes no register; it never writes LAST_RESULT. One
read a move is the model's reading (log entry 15). -/
def Obligations.RoamStepAppliesOnlyChanges : Prop :=
  ∀ s : State, Admitted s →
    (s.snapAt ≠ 4 → exec .cuRoamstep s = .next { s with
      snap := s.snap.set s.snapAt s.lrt[s.snapAt], snapAt := s.snapAt + 1 }) ∧
    (s.snapAt = 4 →
      let r : State := { s with snap := s.snap.set 4 s.lrt[4], snapAt := 0 }
      (s.snap[center] < s.cfg.wallLimit → s.steer = .right → exec .cuRoamstep s = .next r) ∧
      (s.snap[center] < s.cfg.wallLimit → s.steer ≠ .right →
        exec .cuRoamstep s = .next { runningBoth r true false true with steer := .right }) ∧
      (s.cfg.wallLimit ≤ s.snap[center] → s.steer = .forward → exec .cuRoamstep s = .next r) ∧
      (s.cfg.wallLimit ≤ s.snap[center] → s.steer ≠ .forward →
        exec .cuRoamstep s = .next { runningBoth r true true false with steer := .forward }))

/-- R223: the steering actuation map. -/
def Obligations.SteeringActuationMap : Prop :=
  ∀ s : State, Admitted s →
    exec (.applySteer .forward) s = .next (runningBoth s true true false) ∧
    exec (.applySteer .left) s = .next (runningBoth s false true true) ∧
    exec (.applySteer .right) s = .next (runningBoth s true false true) ∧
    exec (.applySteer .stop) s = .next (stoppedAll s)

/-- R227, SDX's scenario 3: in Roam with Forward applied and the centre reading below the limit, a roam step (its five reads) applies
Right; from then on every step of the block that is no reset and takes no character keeps Roam, keeps STEER at Right and writes
no motor field but the step output, as long as the reading stays below. `draws` counts the resets, and `snap` holds what the
roam step in progress has read (log entries 3, 15). -/
def Obligations.ObstacleAppliesRightExactlyOnce : Prop :=
  (∀ s : State, Admitted s → s.mode = .roam → s.steer = .forward → s.snapAt = 0 → s.lrt[center] < s.cfg.wallLimit →
    runOps (List.replicate 5 .cuRoamstep) s =
      .next { runningBoth s true false true with steer := .right, snap := s.lrt }) ∧
  ∀ s t : State, s.mode = .roam → s.steer = .right → s.lrt[center] < s.cfg.wallLimit →
    (2 < s.snapAt.val → s.snap[center] < s.cfg.wallLimit) →
    step s = .next t → t.draws = s.draws → (∃ tail, t.rxq = s.rxq ++ tail) →
      t.mode = .roam ∧ t.steer = .right ∧ t.cfg = s.cfg ∧ (2 < t.snapAt.val → t.snap[center] < t.cfg.wallLimit) ∧
      ∀ c, (t.motor c).en = (s.motor c).en ∧ (t.motor c).dir = (s.motor c).dir ∧ (t.motor c).run = (s.motor c).run ∧
        (t.motor c).divsel = (s.motor c).divsel ∧ (t.motor c).settleT = (s.motor c).settleT

/-! ## The environment and reset -/

/-- R71: a pushed byte goes to the tail of the FIFO, or, where the FIFO is full, is lost and sets RX_OVF; no other register is
touched. -/
def Obligations.PushAppendsOrOverflows : Prop :=
  ∀ (s : State) (b : Byte), Admitted s →
    (s.rxq.length < s.cfg.rxDepth → exec (.envRxpush b) s = .next { s with rxq := s.rxq ++ [b] }) ∧
    (s.cfg.rxDepth ≤ s.rxq.length → exec (.envRxpush b) s = .next { s with rxOvf := true })

/-- ENV.ECHO changes one echo line's level and nothing else: no edge is captured before the line is sampled (R100, R181, R260). -/
def Obligations.EchoChangesOnlyItsLine : Prop :=
  ∀ (s : State) (i : Us) (level : Bool), Admitted s →
    ∃ t, exec (.envEcho i level) s = .next t ∧ t.ports.echo[i] = level ∧
      (∀ j : Us, j ≠ i → t.ports.echo[j] = s.ports.echo[j]) ∧
      t = { s with ports := { s.ports with echo := t.ports.echo } }

/-- R50: what reset leaves, in every piece of state the table gives a value for (`TS` and `FIRE_T0` are unspecified). That the echo
stages already hold the port levels of this clock, and that the trace starts again, is the model's reading (log entries 17, 18). -/
def Obligations.ResetLeavesTableValues : Prop :=
  ∀ s : State, Admitted s →
    ∃ t, exec .rst s = .next t ∧
      (∀ i : Us, t.letT[i] = 0 ∧ t.lrt[i] = 0 ∧ t.trig[i] = false ∧ t.echoQ[i] = s.ports.echo[i] ∧
        t.sync1[i] = s.ports.echo[i] ∧ t.sync2[i] = s.ports.echo[i]) ∧
      t.tseq = .sleepOver ∧
      (∀ c, (t.motor c).en = decide (s.cfg.profile = .layoutA) ∧ (t.motor c).dir = false ∧ (t.motor c).step = false ∧
        (t.motor c).run = false ∧ (t.motor c).divsel = false ∧ (t.motor c).pgPh = .high ∧
        (t.motor c).settleT = t.ts ∧ (t.motor c).lastStepT = t.ts ∧
        t.portLevel (.mEn c) = (if s.cfg.profile = .layoutA then !s.cfg.enHoldLevel else s.cfg.enHoldLevel)) ∧
      t.gun = false ∧ t.fireBusy = false ∧ t.mode = .manual ∧ t.steer = .none ∧ t.lastValid = false ∧ t.lastChar = 0x00 ∧
      t.lastResult = .none ∧ t.rxq = [] ∧ t.rxOvf = false ∧ t.cuPh = .ready ∧ t.ctrlReg = 0x000E ∧
      t.trace = [] ∧ t.cfg = s.cfg

/-- R270, R29, R249: at a `CLK` edge with `RST = 1` the step is the reset and nothing else, and the byte of that clock is not pushed;
at the first edge with `RST = 0` after it the synchronizers take the port levels; every edge with `RST = 0` counts the `TICK`s its
clock completes at `F_CLK`, one in the untimed model, and changes nothing else of the block. The list of inputs, the count and the
phase of the timebase, and the clock cut into places, are the model's (log entries 7, 8, 18, 19). -/
def Obligations.ResetClockDoesNothingElse : Prop :=
  ∀ (s : State) (p : Ports) (rest : List Ports), Admitted s → s.slot = .edge → s.inTick = false →
    s.cfg.timing = .timed ∨ s.schedule = [] → s.inputs = p :: rest →
    let phase := s.tickPhase % s.cfg.fClk + 1000000
    let u : State := { s with
      ports := p
      inputs := rest
      slot := .rx
      ticksDue := if s.cfg.timing = .timed then phase / s.cfg.fClk else 1
      tickPhase := if s.cfg.timing = .timed then phase % s.cfg.fClk else s.tickPhase }
    (p.rst = true → ∃ t, exec .rst { s with ports := p, inputs := rest } = .next t ∧ step s = .next t ∧
      t.slot = .edge ∧ t.rxq = []) ∧
    (p.rst = false → s.ports.rst = true → step s = .next { u with echoQ := p.echo, sync1 := p.echo, sync2 := p.echo }) ∧
    (p.rst = false → s.ports.rst = false → step s = .next u)

/-- R25, R29, R30, R32, R39, R40, R41, R46: the packed views hold each field at its bit, MODE, STEER and LAST_RESULT by the code
tables of R42, R43 and R240, and each view is read under its register number. -/
def Obligations.PackedViewsHoldTheirFields : Prop :=
  ∀ s : State,
    (∀ m : Motor, m.packed.toNat =
      m.en.toNat + 2 * m.dir.toNat + 4 * m.step.toNat + 8 * m.run.toNat + 16 * m.divsel.toNat) ∧
    s.actReg.toNat = s.gun.toNat + 2 * s.fireBusy.toNat ∧
    s.rxstatReg.toNat = s.rxOvf.toNat ∧
    s.ctrlReg.toNat = s.mode.code.toNat + 2 * s.steer.code.toNat + 16 * s.lastValid.toNat +
      32 * s.lastResult.code.toNat + 256 * s.lastChar.toNat ∧
    (Mode.manual.code = 0 ∧ Mode.roam.code = 1) ∧
    (Steer.stop.code = 0 ∧ Steer.forward.code = 1 ∧ Steer.left.code = 2 ∧ Steer.right.code = 3 ∧ Steer.reverse.code = 4 ∧
      Steer.none.code = 7) ∧
    (Result.none.code = 0 ∧ Result.ok.code = 1 ∧ Result.invalidFraming.code = 2 ∧ Result.unknownCommand.code = 3 ∧
      Result.reentrant.code = 4 ∧ Result.debounced.code = 5 ∧ Result.stub.code = 6) ∧
    (∀ v : Levels, (packLevels v).toNat =
      v[0].toNat + 2 * v[1].toNat + 4 * v[2].toNat + 8 * v[3].toNat + 16 * v[4].toNat) ∧
    s.register 0x11 = some (packLevels s.echoQ).toNat ∧ s.register 0x12 = some (packLevels s.trig).toNat ∧
    s.register 0x18 = some s.left.packed.toNat ∧ s.register 0x19 = some s.right.packed.toNat ∧
    s.register 0x1A = some s.actReg.toNat ∧ s.register 0x20 = some s.ctrlReg.toNat ∧ s.register 0x21 = some s.rxstatReg.toNat

/-! ## The step -/

/-- Where it is CU's turn and CU is ready in a framed profile, one step takes the frame at the head of the FIFO and runs the
operation it decodes to on the state with the frame consumed, and then ends the tick (R120, R210): CU sleeps, but where LA.LEFT
or LA.RIGHT began a pulse CU stays in it and sleeps after its last stage (`endTick`; log entries 30, 33). Whose turn it is, is the
model's field `slot` (log entry 19). -/
def Obligations.StepRunsDecodedFrame : Prop :=
  ∀ (s : State) (i : Instr) (rest : List Byte), Admitted s → s.slot = .cu → s.cuPh = .ready → s.inTick = false →
    s.cfg.timing = .timed ∨ s.schedule = [] → s.cfg.profile ≠ .teleop → decode s.cfg s.rxq = .ok (i, rest) →
    ∃ t, exec i { s with rxq := rest, slot := .edge } = .next t ∧ step s = .next (endTick t) ∧
      (t.cuPh = .ready → step s = .next { t with cuPh := .sleep t.ts }) ∧
      (∀ c stage t0, t.cuPh = .pulse c stage t0 → step s = .next t)

/-- Where it is CU's turn and CU is ready in profile T, one step takes the character at the head of the FIFO and, unless it is
debounced, runs the operation it decodes to on the state that has accepted it, and then goes on with the tick (R210, R212): a fire
holds CU, Manual sleeps, Roam begins the roam step with its first read (log entry 15). Whose turn it is, is the model's field
`slot` (log entry 19). -/
def Obligations.StepRunsDecodedCharacter : Prop :=
  ∀ (s : State) (i : Instr) (ch : Byte) (rest : List Byte), Admitted s → s.slot = .cu → s.cuPh = .ready → s.inTick = false →
    s.cfg.timing = .timed ∨ s.schedule = [] → s.cfg.profile = .teleop → s.rxq = ch :: rest →
    s.lastValid = false ∨ ch ≠ s.lastChar → decode s.cfg s.rxq = .ok (i, rest) →
    ∃ t, exec i (acceptChar ch { s with rxq := rest, slot := .edge }) = .next t ∧
      (t.cuPh = .firing → step s = .next t) ∧
      (t.cuPh ≠ .firing → t.mode = .manual → step s = .next { t with cuPh := .sleep t.ts }) ∧
      (t.cuPh ≠ .firing → t.mode = .roam →
        step s = .next { t with snap := t.snap.set 0 t.lrt[0], snapAt := 1, inTick := true })

/-- R249, R250: every step is one move. In the untimed model the schedule's next entry moves: the timebase PT.TICK, an edge-capture
unit PT.SAMPLE, the sequencer PT.TRIGALL, a pulse generator MD.PG_STEP, the fire timer MD.FIRE_END, the environment ENV.RXPUSH or
ENV.ECHO, a reset RST, CU its pulse's next stage or CU.TICK, each on the state with `RST` released. Otherwise the places of a clock
move in R249's order: the byte where one is presented, samples 0 to 4, PT.TICK once for each `TICK` due, the sequencer, the two
generators, the fire timer, CU; a place with no byte or no `TICK` due only passes the turn on; and while CU is inside a roam step
it keeps the turn. The schedule, the places and the release are the model's (log entries 7, 15, 18, 19). -/
def Obligations.EachTurnIsOneMove : Prop :=
  (∀ (s : State) (m : Move) (rest : List Move), Admitted s → s.cfg.timing = .untimed → s.schedule = m :: rest →
    let r : State := { released s with schedule := rest }
    (m = .tick → step s = exec .ptTick r) ∧ (∀ k, m = .sample k → step s = exec (.ptSample k) r) ∧
    (m = .trig → step s = exec .ptTrigall r) ∧ (∀ c, m = .pg c → step s = exec (.mdPgStep c) r) ∧
    (m = .fireEnd → step s = exec .mdFireEnd r) ∧ (∀ b, m = .rxPush b → step s = exec (.envRxpush b) r) ∧
    (∀ k level, m = .echo k level → step s = exec (.envEcho k level) r) ∧ (m = .reset → step s = exec .rst r) ∧
    (m = .cu → NotPulsing s → step s = exec .cuTick r) ∧
    (∀ c stage t0, m = .cu → s.cuPh = .pulse c stage t0 → step s = exec (.mdPulse c (s.motor c).dir) r)) ∧
  (∀ s : State, Admitted s → s.cfg.timing = .timed ∨ s.schedule = [] → s.inTick = true → step s = exec .cuTick s) ∧
  (∀ s : State, Admitted s → s.cfg.timing = .timed ∨ s.schedule = [] → s.inTick = false →
    (s.slot = .rx → step s =
      if s.ports.rxValid then exec (.envRxpush s.ports.rxByte) { s with slot := .sample 0 }
      else .next { s with slot := .sample 0 }) ∧
    (∀ k : Us, s.slot = .sample k → k ≠ 4 → step s = exec (.ptSample k) { s with slot := .sample (k + 1) }) ∧
    (s.slot = .sample 4 → step s = exec (.ptSample 4) { s with slot := .tick }) ∧
    (s.slot = .tick → s.ticksDue = 0 → step s = .next { s with slot := .trig }) ∧
    (s.slot = .tick → s.ticksDue = 1 → step s = exec .ptTick { s with ticksDue := 0, slot := .trig }) ∧
    (s.slot = .tick → 2 ≤ s.ticksDue → step s = exec .ptTick { s with ticksDue := s.ticksDue - 1 }) ∧
    (s.slot = .trig → step s = exec .ptTrigall { s with slot := .pg .left }) ∧
    (s.slot = .pg .left → step s = exec (.mdPgStep .left) { s with slot := .pg .right }) ∧
    (s.slot = .pg .right → step s = exec (.mdPgStep .right) { s with slot := .fire }) ∧
    (s.slot = .fire → step s = exec .mdFireEnd { s with slot := .cu }) ∧
    (s.slot = .cu → NotPulsing s → step s = exec .cuTick { s with slot := .edge }) ∧
    (∀ c stage t0, s.slot = .cu → s.cuPh = .pulse c stage t0 →
      step s = exec (.mdPulse c (s.motor c).dir) { s with slot := .edge }))

/-! ## The whole machine -/

/-- Every step keeps the invariant: the FIFO within its depth, at most one trigger high, running channels enabled, framed profiles
at their reset mode, CU firing exactly while the fire is busy with both channels held, pulses only in profile A, every time a value
of `TS_W` bits, a snapshot in progress only inside a roam step (R10, R36, R46, R47, R77, R139, R161, R186, R188, R225). -/
def Obligations.StepKeepsInvariant : Prop :=
  ∀ s t : State, BlockInvariant s → step s = .next t → BlockInvariant t

/-- R20, R21: at every step the output trace stays exactly the sequence of port changes since reset: each event changes its port's
level, and the events lead from the reset levels to the levels the registers drive. A step that is a reset starts the trace again,
empty, at the reset levels (R271, log entry 17). -/
def Obligations.StepKeepsTraceExact : Prop :=
  ∀ s t : State, TraceExact s → step s = .next t → TraceExact t

/-- A state right after reset, `State.reset` among them, has the invariant, and its trace is exact: it is empty and the ports
have their reset levels (R50, R271). The build and the ports `State.reset` shows are the model's choice (log entries 2, 5), that the
trace is empty after any reset is its reading (log entry 17), and the snapshot part of the invariant rests on the reset values of
its own fields (log entry 29). -/
def Obligations.ResetIsSafe : Prop :=
  BlockInvariant State.reset ∧ TraceExact State.reset ∧
    ∀ s t : State, exec .rst s = .next t → BlockInvariant t ∧ TraceExact t ∧ t.trace = []

/-- R247, R51: no condition stops the block: in an admitted build every step answers a next state, and no step changes the build. -/
def Obligations.NoStepEverStops : Prop :=
  ∀ s : State, Admitted s → ∃ t, step s = .next t ∧ t.cfg = s.cfg

/-- R139, R225: in profiles A and B, where no roam step is in progress (a part of the invariant), no step of the block changes
MODE, STEER, LAST_VALID or LAST_CHAR but a reset, which leaves them at their reset values. `draws` counts the resets (log
entry 3). -/
def Obligations.FramedProfilesNeverRoam : Prop :=
  ∀ s t : State, s.cfg.profile ≠ .teleop → SnapshotConsistent s → step s = .next t →
    (t.draws = s.draws →
      t.mode = s.mode ∧ t.steer = s.steer ∧ t.lastValid = s.lastValid ∧ t.lastChar = s.lastChar) ∧
    (t.draws ≠ s.draws → t.mode = .manual ∧ t.steer = .none ∧ t.lastValid = false ∧ t.lastChar = 0x00)

/-- R211: while CU is firing, every step after which the fire is still busy (each but the end of the fire and a reset) leaves CU
firing and every byte in the FIFO, in order, runs no roam step and writes no motor field but the step output; bytes that arrive
wait behind the others or are lost. The premises are parts of the invariant. -/
def Obligations.FireBlocksControl : Prop :=
  ∀ s t : State, FiringConsistent s → SnapshotConsistent s → s.cuPh = .firing → step s = .next t → t.fireBusy = true →
    t.cuPh = .firing ∧ (∃ tail, t.rxq = s.rxq ++ tail) ∧ t.mode = s.mode ∧ t.steer = s.steer ∧ t.lastResult = s.lastResult ∧
    t.lastValid = s.lastValid ∧ t.lastChar = s.lastChar ∧ t.gun = s.gun ∧ t.fireBusy = s.fireBusy ∧ t.snapAt = s.snapAt ∧
    ∀ c, (t.motor c).en = (s.motor c).en ∧ (t.motor c).run = (s.motor c).run ∧ (t.motor c).dir = (s.motor c).dir ∧
      (t.motor c).divsel = (s.motor c).divsel

/-- R52, R226: the agents other than CU write no actuator or control register but their own: the pulse generator the step output,
the fire timer the gun and FIRE_BUSY; none of them takes a byte from the FIFO. -/
def Obligations.OnlyControlUnitDrivesActuators : Prop :=
  ∀ (s t : State) (i : Instr) (k : Us) (c : Channel) (b : Byte) (level : Bool),
    i = .ptTick ∨ i = .ptSample k ∨ i = .ptTrigall ∨ i = .mdPgStep c ∨ i = .mdFireEnd ∨ i = .envRxpush b ∨
      i = .envEcho k level → exec i s = .next t →
    (∀ d, (t.motor d).en = (s.motor d).en ∧ (t.motor d).dir = (s.motor d).dir ∧ (t.motor d).run = (s.motor d).run ∧
      (t.motor d).divsel = (s.motor d).divsel ∧ (i ≠ .mdPgStep d → (t.motor d).step = (s.motor d).step)) ∧
    (i ≠ .mdFireEnd → t.gun = s.gun ∧ t.fireBusy = s.fireBusy ∧ t.cuPh = s.cuPh) ∧
    t.mode = s.mode ∧ t.steer = s.steer ∧ t.lastValid = s.lastValid ∧ t.lastChar = s.lastChar ∧
    t.lastResult = s.lastResult ∧ ∃ tail, t.rxq = s.rxq ++ tail

/-- R259, untimed: a fire ends. From any place of the clock, with no schedule and no input left, a busy fire is over after at most
thirteen steps and one for each `TICK` still due. The order agents take when no schedule is left, and the quiet environment, are
the model's (log entries 8, 19), and so is that a round counts one `TICK` and each `TICK` due is a move (log entry 7). -/
def Obligations.UntimedFireEnds : Prop :=
  ∀ s : State, Admitted s → BlockInvariant s → s.cfg.timing = .untimed → s.schedule = [] → s.inputs = [] → s.fireBusy = true →
    ∃ k t, k ≤ 13 + s.ticksDue ∧ Sys2Proof.core.run k s = .next t ∧ t.fireBusy = false

/-- R254, R10: in the timed model a wait of `d` ticks from `t0` is over exactly when `Now() - t0`, modulo `2^TS_W`, is at least `d`;
the untimed model drops the condition (R259, R283). That `d` is compared as a plain number, so that one of `2^TS_W` ticks or more
is never reached, is the model's reading (log entry 26), and so is that whole `TICK`s count where R13 speaks of real time (log
entry 36). -/
def Obligations.WaitComparesModularDifference : Prop :=
  ∀ (s : State) (t0 : Nat) (d : Nat),
    (s.cfg.timing = .timed → (s.passed t0 d = true ↔ (d : Int) ≤ ((s.ts : Int) - (t0 : Int)) % 2 ^ s.cfg.tsW)) ∧
    (s.cfg.timing = .untimed → s.passed t0 d = true)
end

