-- ==== Sys2Proof/Laws/State.lean ====
section
/-!
SUPPORT. What each register update leaves in each field: one lemma per field per update, true by rfl. The fields an update
writes come after, motor channels through `State.motor`.
-/
namespace Sys2Proof.Machine.State

/-! ### setMotor -/

@[simp] theorem setMotor_cfg (s : State) (c : Channel) (m : Motor) : (s.setMotor c m).cfg = s.cfg := rfl
@[simp] theorem setMotor_ports (s : State) (c : Channel) (m : Motor) : (s.setMotor c m).ports = s.ports := rfl
@[simp] theorem setMotor_ts (s : State) (c : Channel) (m : Motor) : (s.setMotor c m).ts = s.ts := rfl
@[simp] theorem setMotor_letT (s : State) (c : Channel) (m : Motor) : (s.setMotor c m).letT = s.letT := rfl
@[simp] theorem setMotor_lrt (s : State) (c : Channel) (m : Motor) : (s.setMotor c m).lrt = s.lrt := rfl
@[simp] theorem setMotor_echoQ (s : State) (c : Channel) (m : Motor) : (s.setMotor c m).echoQ = s.echoQ := rfl
@[simp] theorem setMotor_sync1 (s : State) (c : Channel) (m : Motor) : (s.setMotor c m).sync1 = s.sync1 := rfl
@[simp] theorem setMotor_sync2 (s : State) (c : Channel) (m : Motor) : (s.setMotor c m).sync2 = s.sync2 := rfl
@[simp] theorem setMotor_trig (s : State) (c : Channel) (m : Motor) : (s.setMotor c m).trig = s.trig := rfl
@[simp] theorem setMotor_tseq (s : State) (c : Channel) (m : Motor) : (s.setMotor c m).tseq = s.tseq := rfl
@[simp] theorem setMotor_gun (s : State) (c : Channel) (m : Motor) : (s.setMotor c m).gun = s.gun := rfl
@[simp] theorem setMotor_fireBusy (s : State) (c : Channel) (m : Motor) : (s.setMotor c m).fireBusy = s.fireBusy := rfl
@[simp] theorem setMotor_fireT0 (s : State) (c : Channel) (m : Motor) : (s.setMotor c m).fireT0 = s.fireT0 := rfl
@[simp] theorem setMotor_mode (s : State) (c : Channel) (m : Motor) : (s.setMotor c m).mode = s.mode := rfl
@[simp] theorem setMotor_steer (s : State) (c : Channel) (m : Motor) : (s.setMotor c m).steer = s.steer := rfl
@[simp] theorem setMotor_lastValid (s : State) (c : Channel) (m : Motor) : (s.setMotor c m).lastValid = s.lastValid := rfl
@[simp] theorem setMotor_lastChar (s : State) (c : Channel) (m : Motor) : (s.setMotor c m).lastChar = s.lastChar := rfl
@[simp] theorem setMotor_lastResult (s : State) (c : Channel) (m : Motor) : (s.setMotor c m).lastResult = s.lastResult := rfl
@[simp] theorem setMotor_rxq (s : State) (c : Channel) (m : Motor) : (s.setMotor c m).rxq = s.rxq := rfl
@[simp] theorem setMotor_rxOvf (s : State) (c : Channel) (m : Motor) : (s.setMotor c m).rxOvf = s.rxOvf := rfl
@[simp] theorem setMotor_cuPh (s : State) (c : Channel) (m : Motor) : (s.setMotor c m).cuPh = s.cuPh := rfl
@[simp] theorem setMotor_trace (s : State) (c : Channel) (m : Motor) : (s.setMotor c m).trace = s.trace := rfl
@[simp] theorem setMotor_ret (s : State) (c : Channel) (m : Motor) : (s.setMotor c m).ret = s.ret := rfl
@[simp] theorem setMotor_draws (s : State) (c : Channel) (m : Motor) : (s.setMotor c m).draws = s.draws := rfl
@[simp] theorem setMotor_inputs (s : State) (c : Channel) (m : Motor) : (s.setMotor c m).inputs = s.inputs := rfl
@[simp] theorem setMotor_schedule (s : State) (c : Channel) (m : Motor) : (s.setMotor c m).schedule = s.schedule := rfl
@[simp] theorem setMotor_slot (s : State) (c : Channel) (m : Motor) : (s.setMotor c m).slot = s.slot := rfl
@[simp] theorem setMotor_snap (s : State) (c : Channel) (m : Motor) : (s.setMotor c m).snap = s.snap := rfl
@[simp] theorem setMotor_snapAt (s : State) (c : Channel) (m : Motor) : (s.setMotor c m).snapAt = s.snapAt := rfl
@[simp] theorem setMotor_inTick (s : State) (c : Channel) (m : Motor) : (s.setMotor c m).inTick = s.inTick := rfl
@[simp] theorem setMotor_ticksDue (s : State) (c : Channel) (m : Motor) : (s.setMotor c m).ticksDue = s.ticksDue := rfl
@[simp] theorem setMotor_tickPhase (s : State) (c : Channel) (m : Motor) : (s.setMotor c m).tickPhase = s.tickPhase := rfl

/-! ### setEn -/

@[simp] theorem setEn_cfg (s : State) (c : Channel) (v : Bool) : (s.setEn c v).cfg = s.cfg := rfl
@[simp] theorem setEn_ports (s : State) (c : Channel) (v : Bool) : (s.setEn c v).ports = s.ports := rfl
@[simp] theorem setEn_ts (s : State) (c : Channel) (v : Bool) : (s.setEn c v).ts = s.ts := rfl
@[simp] theorem setEn_letT (s : State) (c : Channel) (v : Bool) : (s.setEn c v).letT = s.letT := rfl
@[simp] theorem setEn_lrt (s : State) (c : Channel) (v : Bool) : (s.setEn c v).lrt = s.lrt := rfl
@[simp] theorem setEn_echoQ (s : State) (c : Channel) (v : Bool) : (s.setEn c v).echoQ = s.echoQ := rfl
@[simp] theorem setEn_sync1 (s : State) (c : Channel) (v : Bool) : (s.setEn c v).sync1 = s.sync1 := rfl
@[simp] theorem setEn_sync2 (s : State) (c : Channel) (v : Bool) : (s.setEn c v).sync2 = s.sync2 := rfl
@[simp] theorem setEn_trig (s : State) (c : Channel) (v : Bool) : (s.setEn c v).trig = s.trig := rfl
@[simp] theorem setEn_tseq (s : State) (c : Channel) (v : Bool) : (s.setEn c v).tseq = s.tseq := rfl
@[simp] theorem setEn_gun (s : State) (c : Channel) (v : Bool) : (s.setEn c v).gun = s.gun := rfl
@[simp] theorem setEn_fireBusy (s : State) (c : Channel) (v : Bool) : (s.setEn c v).fireBusy = s.fireBusy := rfl
@[simp] theorem setEn_fireT0 (s : State) (c : Channel) (v : Bool) : (s.setEn c v).fireT0 = s.fireT0 := rfl
@[simp] theorem setEn_mode (s : State) (c : Channel) (v : Bool) : (s.setEn c v).mode = s.mode := rfl
@[simp] theorem setEn_steer (s : State) (c : Channel) (v : Bool) : (s.setEn c v).steer = s.steer := rfl
@[simp] theorem setEn_lastValid (s : State) (c : Channel) (v : Bool) : (s.setEn c v).lastValid = s.lastValid := rfl
@[simp] theorem setEn_lastChar (s : State) (c : Channel) (v : Bool) : (s.setEn c v).lastChar = s.lastChar := rfl
@[simp] theorem setEn_lastResult (s : State) (c : Channel) (v : Bool) : (s.setEn c v).lastResult = s.lastResult := rfl
@[simp] theorem setEn_rxq (s : State) (c : Channel) (v : Bool) : (s.setEn c v).rxq = s.rxq := rfl
@[simp] theorem setEn_rxOvf (s : State) (c : Channel) (v : Bool) : (s.setEn c v).rxOvf = s.rxOvf := rfl
@[simp] theorem setEn_cuPh (s : State) (c : Channel) (v : Bool) : (s.setEn c v).cuPh = s.cuPh := rfl
@[simp] theorem setEn_ret (s : State) (c : Channel) (v : Bool) : (s.setEn c v).ret = s.ret := rfl
@[simp] theorem setEn_draws (s : State) (c : Channel) (v : Bool) : (s.setEn c v).draws = s.draws := rfl
@[simp] theorem setEn_inputs (s : State) (c : Channel) (v : Bool) : (s.setEn c v).inputs = s.inputs := rfl
@[simp] theorem setEn_schedule (s : State) (c : Channel) (v : Bool) : (s.setEn c v).schedule = s.schedule := rfl
@[simp] theorem setEn_slot (s : State) (c : Channel) (v : Bool) : (s.setEn c v).slot = s.slot := rfl
@[simp] theorem setEn_snap (s : State) (c : Channel) (v : Bool) : (s.setEn c v).snap = s.snap := rfl
@[simp] theorem setEn_snapAt (s : State) (c : Channel) (v : Bool) : (s.setEn c v).snapAt = s.snapAt := rfl
@[simp] theorem setEn_inTick (s : State) (c : Channel) (v : Bool) : (s.setEn c v).inTick = s.inTick := rfl
@[simp] theorem setEn_ticksDue (s : State) (c : Channel) (v : Bool) : (s.setEn c v).ticksDue = s.ticksDue := rfl
@[simp] theorem setEn_tickPhase (s : State) (c : Channel) (v : Bool) : (s.setEn c v).tickPhase = s.tickPhase := rfl

/-! ### setDir -/

@[simp] theorem setDir_cfg (s : State) (c : Channel) (v : Bool) : (s.setDir c v).cfg = s.cfg := rfl
@[simp] theorem setDir_ports (s : State) (c : Channel) (v : Bool) : (s.setDir c v).ports = s.ports := rfl
@[simp] theorem setDir_ts (s : State) (c : Channel) (v : Bool) : (s.setDir c v).ts = s.ts := rfl
@[simp] theorem setDir_letT (s : State) (c : Channel) (v : Bool) : (s.setDir c v).letT = s.letT := rfl
@[simp] theorem setDir_lrt (s : State) (c : Channel) (v : Bool) : (s.setDir c v).lrt = s.lrt := rfl
@[simp] theorem setDir_echoQ (s : State) (c : Channel) (v : Bool) : (s.setDir c v).echoQ = s.echoQ := rfl
@[simp] theorem setDir_sync1 (s : State) (c : Channel) (v : Bool) : (s.setDir c v).sync1 = s.sync1 := rfl
@[simp] theorem setDir_sync2 (s : State) (c : Channel) (v : Bool) : (s.setDir c v).sync2 = s.sync2 := rfl
@[simp] theorem setDir_trig (s : State) (c : Channel) (v : Bool) : (s.setDir c v).trig = s.trig := rfl
@[simp] theorem setDir_tseq (s : State) (c : Channel) (v : Bool) : (s.setDir c v).tseq = s.tseq := rfl
@[simp] theorem setDir_gun (s : State) (c : Channel) (v : Bool) : (s.setDir c v).gun = s.gun := rfl
@[simp] theorem setDir_fireBusy (s : State) (c : Channel) (v : Bool) : (s.setDir c v).fireBusy = s.fireBusy := rfl
@[simp] theorem setDir_fireT0 (s : State) (c : Channel) (v : Bool) : (s.setDir c v).fireT0 = s.fireT0 := rfl
@[simp] theorem setDir_mode (s : State) (c : Channel) (v : Bool) : (s.setDir c v).mode = s.mode := rfl
@[simp] theorem setDir_steer (s : State) (c : Channel) (v : Bool) : (s.setDir c v).steer = s.steer := rfl
@[simp] theorem setDir_lastValid (s : State) (c : Channel) (v : Bool) : (s.setDir c v).lastValid = s.lastValid := rfl
@[simp] theorem setDir_lastChar (s : State) (c : Channel) (v : Bool) : (s.setDir c v).lastChar = s.lastChar := rfl
@[simp] theorem setDir_lastResult (s : State) (c : Channel) (v : Bool) : (s.setDir c v).lastResult = s.lastResult := rfl
@[simp] theorem setDir_rxq (s : State) (c : Channel) (v : Bool) : (s.setDir c v).rxq = s.rxq := rfl
@[simp] theorem setDir_rxOvf (s : State) (c : Channel) (v : Bool) : (s.setDir c v).rxOvf = s.rxOvf := rfl
@[simp] theorem setDir_cuPh (s : State) (c : Channel) (v : Bool) : (s.setDir c v).cuPh = s.cuPh := rfl
@[simp] theorem setDir_ret (s : State) (c : Channel) (v : Bool) : (s.setDir c v).ret = s.ret := rfl
@[simp] theorem setDir_draws (s : State) (c : Channel) (v : Bool) : (s.setDir c v).draws = s.draws := rfl
@[simp] theorem setDir_inputs (s : State) (c : Channel) (v : Bool) : (s.setDir c v).inputs = s.inputs := rfl
@[simp] theorem setDir_schedule (s : State) (c : Channel) (v : Bool) : (s.setDir c v).schedule = s.schedule := rfl
@[simp] theorem setDir_slot (s : State) (c : Channel) (v : Bool) : (s.setDir c v).slot = s.slot := rfl
@[simp] theorem setDir_snap (s : State) (c : Channel) (v : Bool) : (s.setDir c v).snap = s.snap := rfl
@[simp] theorem setDir_snapAt (s : State) (c : Channel) (v : Bool) : (s.setDir c v).snapAt = s.snapAt := rfl
@[simp] theorem setDir_inTick (s : State) (c : Channel) (v : Bool) : (s.setDir c v).inTick = s.inTick := rfl
@[simp] theorem setDir_ticksDue (s : State) (c : Channel) (v : Bool) : (s.setDir c v).ticksDue = s.ticksDue := rfl
@[simp] theorem setDir_tickPhase (s : State) (c : Channel) (v : Bool) : (s.setDir c v).tickPhase = s.tickPhase := rfl

/-! ### setStep -/

@[simp] theorem setStep_cfg (s : State) (c : Channel) (v : Bool) : (s.setStep c v).cfg = s.cfg := rfl
@[simp] theorem setStep_ports (s : State) (c : Channel) (v : Bool) : (s.setStep c v).ports = s.ports := rfl
@[simp] theorem setStep_ts (s : State) (c : Channel) (v : Bool) : (s.setStep c v).ts = s.ts := rfl
@[simp] theorem setStep_letT (s : State) (c : Channel) (v : Bool) : (s.setStep c v).letT = s.letT := rfl
@[simp] theorem setStep_lrt (s : State) (c : Channel) (v : Bool) : (s.setStep c v).lrt = s.lrt := rfl
@[simp] theorem setStep_echoQ (s : State) (c : Channel) (v : Bool) : (s.setStep c v).echoQ = s.echoQ := rfl
@[simp] theorem setStep_sync1 (s : State) (c : Channel) (v : Bool) : (s.setStep c v).sync1 = s.sync1 := rfl
@[simp] theorem setStep_sync2 (s : State) (c : Channel) (v : Bool) : (s.setStep c v).sync2 = s.sync2 := rfl
@[simp] theorem setStep_trig (s : State) (c : Channel) (v : Bool) : (s.setStep c v).trig = s.trig := rfl
@[simp] theorem setStep_tseq (s : State) (c : Channel) (v : Bool) : (s.setStep c v).tseq = s.tseq := rfl
@[simp] theorem setStep_gun (s : State) (c : Channel) (v : Bool) : (s.setStep c v).gun = s.gun := rfl
@[simp] theorem setStep_fireBusy (s : State) (c : Channel) (v : Bool) : (s.setStep c v).fireBusy = s.fireBusy := rfl
@[simp] theorem setStep_fireT0 (s : State) (c : Channel) (v : Bool) : (s.setStep c v).fireT0 = s.fireT0 := rfl
@[simp] theorem setStep_mode (s : State) (c : Channel) (v : Bool) : (s.setStep c v).mode = s.mode := rfl
@[simp] theorem setStep_steer (s : State) (c : Channel) (v : Bool) : (s.setStep c v).steer = s.steer := rfl
@[simp] theorem setStep_lastValid (s : State) (c : Channel) (v : Bool) : (s.setStep c v).lastValid = s.lastValid := rfl
@[simp] theorem setStep_lastChar (s : State) (c : Channel) (v : Bool) : (s.setStep c v).lastChar = s.lastChar := rfl
@[simp] theorem setStep_lastResult (s : State) (c : Channel) (v : Bool) : (s.setStep c v).lastResult = s.lastResult := rfl
@[simp] theorem setStep_rxq (s : State) (c : Channel) (v : Bool) : (s.setStep c v).rxq = s.rxq := rfl
@[simp] theorem setStep_rxOvf (s : State) (c : Channel) (v : Bool) : (s.setStep c v).rxOvf = s.rxOvf := rfl
@[simp] theorem setStep_cuPh (s : State) (c : Channel) (v : Bool) : (s.setStep c v).cuPh = s.cuPh := rfl
@[simp] theorem setStep_ret (s : State) (c : Channel) (v : Bool) : (s.setStep c v).ret = s.ret := rfl
@[simp] theorem setStep_draws (s : State) (c : Channel) (v : Bool) : (s.setStep c v).draws = s.draws := rfl
@[simp] theorem setStep_inputs (s : State) (c : Channel) (v : Bool) : (s.setStep c v).inputs = s.inputs := rfl
@[simp] theorem setStep_schedule (s : State) (c : Channel) (v : Bool) : (s.setStep c v).schedule = s.schedule := rfl
@[simp] theorem setStep_slot (s : State) (c : Channel) (v : Bool) : (s.setStep c v).slot = s.slot := rfl
@[simp] theorem setStep_snap (s : State) (c : Channel) (v : Bool) : (s.setStep c v).snap = s.snap := rfl
@[simp] theorem setStep_snapAt (s : State) (c : Channel) (v : Bool) : (s.setStep c v).snapAt = s.snapAt := rfl
@[simp] theorem setStep_inTick (s : State) (c : Channel) (v : Bool) : (s.setStep c v).inTick = s.inTick := rfl
@[simp] theorem setStep_ticksDue (s : State) (c : Channel) (v : Bool) : (s.setStep c v).ticksDue = s.ticksDue := rfl
@[simp] theorem setStep_tickPhase (s : State) (c : Channel) (v : Bool) : (s.setStep c v).tickPhase = s.tickPhase := rfl

/-! ### setRun -/

@[simp] theorem setRun_cfg (s : State) (c : Channel) (v : Bool) : (s.setRun c v).cfg = s.cfg := rfl
@[simp] theorem setRun_ports (s : State) (c : Channel) (v : Bool) : (s.setRun c v).ports = s.ports := rfl
@[simp] theorem setRun_ts (s : State) (c : Channel) (v : Bool) : (s.setRun c v).ts = s.ts := rfl
@[simp] theorem setRun_letT (s : State) (c : Channel) (v : Bool) : (s.setRun c v).letT = s.letT := rfl
@[simp] theorem setRun_lrt (s : State) (c : Channel) (v : Bool) : (s.setRun c v).lrt = s.lrt := rfl
@[simp] theorem setRun_echoQ (s : State) (c : Channel) (v : Bool) : (s.setRun c v).echoQ = s.echoQ := rfl
@[simp] theorem setRun_sync1 (s : State) (c : Channel) (v : Bool) : (s.setRun c v).sync1 = s.sync1 := rfl
@[simp] theorem setRun_sync2 (s : State) (c : Channel) (v : Bool) : (s.setRun c v).sync2 = s.sync2 := rfl
@[simp] theorem setRun_trig (s : State) (c : Channel) (v : Bool) : (s.setRun c v).trig = s.trig := rfl
@[simp] theorem setRun_tseq (s : State) (c : Channel) (v : Bool) : (s.setRun c v).tseq = s.tseq := rfl
@[simp] theorem setRun_gun (s : State) (c : Channel) (v : Bool) : (s.setRun c v).gun = s.gun := rfl
@[simp] theorem setRun_fireBusy (s : State) (c : Channel) (v : Bool) : (s.setRun c v).fireBusy = s.fireBusy := rfl
@[simp] theorem setRun_fireT0 (s : State) (c : Channel) (v : Bool) : (s.setRun c v).fireT0 = s.fireT0 := rfl
@[simp] theorem setRun_mode (s : State) (c : Channel) (v : Bool) : (s.setRun c v).mode = s.mode := rfl
@[simp] theorem setRun_steer (s : State) (c : Channel) (v : Bool) : (s.setRun c v).steer = s.steer := rfl
@[simp] theorem setRun_lastValid (s : State) (c : Channel) (v : Bool) : (s.setRun c v).lastValid = s.lastValid := rfl
@[simp] theorem setRun_lastChar (s : State) (c : Channel) (v : Bool) : (s.setRun c v).lastChar = s.lastChar := rfl
@[simp] theorem setRun_lastResult (s : State) (c : Channel) (v : Bool) : (s.setRun c v).lastResult = s.lastResult := rfl
@[simp] theorem setRun_rxq (s : State) (c : Channel) (v : Bool) : (s.setRun c v).rxq = s.rxq := rfl
@[simp] theorem setRun_rxOvf (s : State) (c : Channel) (v : Bool) : (s.setRun c v).rxOvf = s.rxOvf := rfl
@[simp] theorem setRun_cuPh (s : State) (c : Channel) (v : Bool) : (s.setRun c v).cuPh = s.cuPh := rfl
@[simp] theorem setRun_trace (s : State) (c : Channel) (v : Bool) : (s.setRun c v).trace = s.trace := rfl
@[simp] theorem setRun_ret (s : State) (c : Channel) (v : Bool) : (s.setRun c v).ret = s.ret := rfl
@[simp] theorem setRun_draws (s : State) (c : Channel) (v : Bool) : (s.setRun c v).draws = s.draws := rfl
@[simp] theorem setRun_inputs (s : State) (c : Channel) (v : Bool) : (s.setRun c v).inputs = s.inputs := rfl
@[simp] theorem setRun_schedule (s : State) (c : Channel) (v : Bool) : (s.setRun c v).schedule = s.schedule := rfl
@[simp] theorem setRun_slot (s : State) (c : Channel) (v : Bool) : (s.setRun c v).slot = s.slot := rfl
@[simp] theorem setRun_snap (s : State) (c : Channel) (v : Bool) : (s.setRun c v).snap = s.snap := rfl
@[simp] theorem setRun_snapAt (s : State) (c : Channel) (v : Bool) : (s.setRun c v).snapAt = s.snapAt := rfl
@[simp] theorem setRun_inTick (s : State) (c : Channel) (v : Bool) : (s.setRun c v).inTick = s.inTick := rfl
@[simp] theorem setRun_ticksDue (s : State) (c : Channel) (v : Bool) : (s.setRun c v).ticksDue = s.ticksDue := rfl
@[simp] theorem setRun_tickPhase (s : State) (c : Channel) (v : Bool) : (s.setRun c v).tickPhase = s.tickPhase := rfl

/-! ### setDivsel -/

@[simp] theorem setDivsel_cfg (s : State) (c : Channel) (v : Bool) : (s.setDivsel c v).cfg = s.cfg := rfl
@[simp] theorem setDivsel_ports (s : State) (c : Channel) (v : Bool) : (s.setDivsel c v).ports = s.ports := rfl
@[simp] theorem setDivsel_ts (s : State) (c : Channel) (v : Bool) : (s.setDivsel c v).ts = s.ts := rfl
@[simp] theorem setDivsel_letT (s : State) (c : Channel) (v : Bool) : (s.setDivsel c v).letT = s.letT := rfl
@[simp] theorem setDivsel_lrt (s : State) (c : Channel) (v : Bool) : (s.setDivsel c v).lrt = s.lrt := rfl
@[simp] theorem setDivsel_echoQ (s : State) (c : Channel) (v : Bool) : (s.setDivsel c v).echoQ = s.echoQ := rfl
@[simp] theorem setDivsel_sync1 (s : State) (c : Channel) (v : Bool) : (s.setDivsel c v).sync1 = s.sync1 := rfl
@[simp] theorem setDivsel_sync2 (s : State) (c : Channel) (v : Bool) : (s.setDivsel c v).sync2 = s.sync2 := rfl
@[simp] theorem setDivsel_trig (s : State) (c : Channel) (v : Bool) : (s.setDivsel c v).trig = s.trig := rfl
@[simp] theorem setDivsel_tseq (s : State) (c : Channel) (v : Bool) : (s.setDivsel c v).tseq = s.tseq := rfl
@[simp] theorem setDivsel_gun (s : State) (c : Channel) (v : Bool) : (s.setDivsel c v).gun = s.gun := rfl
@[simp] theorem setDivsel_fireBusy (s : State) (c : Channel) (v : Bool) : (s.setDivsel c v).fireBusy = s.fireBusy := rfl
@[simp] theorem setDivsel_fireT0 (s : State) (c : Channel) (v : Bool) : (s.setDivsel c v).fireT0 = s.fireT0 := rfl
@[simp] theorem setDivsel_mode (s : State) (c : Channel) (v : Bool) : (s.setDivsel c v).mode = s.mode := rfl
@[simp] theorem setDivsel_steer (s : State) (c : Channel) (v : Bool) : (s.setDivsel c v).steer = s.steer := rfl
@[simp] theorem setDivsel_lastValid (s : State) (c : Channel) (v : Bool) : (s.setDivsel c v).lastValid = s.lastValid := rfl
@[simp] theorem setDivsel_lastChar (s : State) (c : Channel) (v : Bool) : (s.setDivsel c v).lastChar = s.lastChar := rfl
@[simp] theorem setDivsel_lastResult (s : State) (c : Channel) (v : Bool) : (s.setDivsel c v).lastResult = s.lastResult := rfl
@[simp] theorem setDivsel_rxq (s : State) (c : Channel) (v : Bool) : (s.setDivsel c v).rxq = s.rxq := rfl
@[simp] theorem setDivsel_rxOvf (s : State) (c : Channel) (v : Bool) : (s.setDivsel c v).rxOvf = s.rxOvf := rfl
@[simp] theorem setDivsel_cuPh (s : State) (c : Channel) (v : Bool) : (s.setDivsel c v).cuPh = s.cuPh := rfl
@[simp] theorem setDivsel_trace (s : State) (c : Channel) (v : Bool) : (s.setDivsel c v).trace = s.trace := rfl
@[simp] theorem setDivsel_ret (s : State) (c : Channel) (v : Bool) : (s.setDivsel c v).ret = s.ret := rfl
@[simp] theorem setDivsel_draws (s : State) (c : Channel) (v : Bool) : (s.setDivsel c v).draws = s.draws := rfl
@[simp] theorem setDivsel_inputs (s : State) (c : Channel) (v : Bool) : (s.setDivsel c v).inputs = s.inputs := rfl
@[simp] theorem setDivsel_schedule (s : State) (c : Channel) (v : Bool) : (s.setDivsel c v).schedule = s.schedule := rfl
@[simp] theorem setDivsel_slot (s : State) (c : Channel) (v : Bool) : (s.setDivsel c v).slot = s.slot := rfl
@[simp] theorem setDivsel_snap (s : State) (c : Channel) (v : Bool) : (s.setDivsel c v).snap = s.snap := rfl
@[simp] theorem setDivsel_snapAt (s : State) (c : Channel) (v : Bool) : (s.setDivsel c v).snapAt = s.snapAt := rfl
@[simp] theorem setDivsel_inTick (s : State) (c : Channel) (v : Bool) : (s.setDivsel c v).inTick = s.inTick := rfl
@[simp] theorem setDivsel_ticksDue (s : State) (c : Channel) (v : Bool) : (s.setDivsel c v).ticksDue = s.ticksDue := rfl
@[simp] theorem setDivsel_tickPhase (s : State) (c : Channel) (v : Bool) : (s.setDivsel c v).tickPhase = s.tickPhase := rfl

/-! ### restartSettle -/

@[simp] theorem restartSettle_cfg (s : State) (c : Channel) : (s.restartSettle c).cfg = s.cfg := rfl
@[simp] theorem restartSettle_ports (s : State) (c : Channel) : (s.restartSettle c).ports = s.ports := rfl
@[simp] theorem restartSettle_ts (s : State) (c : Channel) : (s.restartSettle c).ts = s.ts := rfl
@[simp] theorem restartSettle_letT (s : State) (c : Channel) : (s.restartSettle c).letT = s.letT := rfl
@[simp] theorem restartSettle_lrt (s : State) (c : Channel) : (s.restartSettle c).lrt = s.lrt := rfl
@[simp] theorem restartSettle_echoQ (s : State) (c : Channel) : (s.restartSettle c).echoQ = s.echoQ := rfl
@[simp] theorem restartSettle_sync1 (s : State) (c : Channel) : (s.restartSettle c).sync1 = s.sync1 := rfl
@[simp] theorem restartSettle_sync2 (s : State) (c : Channel) : (s.restartSettle c).sync2 = s.sync2 := rfl
@[simp] theorem restartSettle_trig (s : State) (c : Channel) : (s.restartSettle c).trig = s.trig := rfl
@[simp] theorem restartSettle_tseq (s : State) (c : Channel) : (s.restartSettle c).tseq = s.tseq := rfl
@[simp] theorem restartSettle_gun (s : State) (c : Channel) : (s.restartSettle c).gun = s.gun := rfl
@[simp] theorem restartSettle_fireBusy (s : State) (c : Channel) : (s.restartSettle c).fireBusy = s.fireBusy := rfl
@[simp] theorem restartSettle_fireT0 (s : State) (c : Channel) : (s.restartSettle c).fireT0 = s.fireT0 := rfl
@[simp] theorem restartSettle_mode (s : State) (c : Channel) : (s.restartSettle c).mode = s.mode := rfl
@[simp] theorem restartSettle_steer (s : State) (c : Channel) : (s.restartSettle c).steer = s.steer := rfl
@[simp] theorem restartSettle_lastValid (s : State) (c : Channel) : (s.restartSettle c).lastValid = s.lastValid := rfl
@[simp] theorem restartSettle_lastChar (s : State) (c : Channel) : (s.restartSettle c).lastChar = s.lastChar := rfl
@[simp] theorem restartSettle_lastResult (s : State) (c : Channel) : (s.restartSettle c).lastResult = s.lastResult := rfl
@[simp] theorem restartSettle_rxq (s : State) (c : Channel) : (s.restartSettle c).rxq = s.rxq := rfl
@[simp] theorem restartSettle_rxOvf (s : State) (c : Channel) : (s.restartSettle c).rxOvf = s.rxOvf := rfl
@[simp] theorem restartSettle_cuPh (s : State) (c : Channel) : (s.restartSettle c).cuPh = s.cuPh := rfl
@[simp] theorem restartSettle_trace (s : State) (c : Channel) : (s.restartSettle c).trace = s.trace := rfl
@[simp] theorem restartSettle_ret (s : State) (c : Channel) : (s.restartSettle c).ret = s.ret := rfl
@[simp] theorem restartSettle_draws (s : State) (c : Channel) : (s.restartSettle c).draws = s.draws := rfl
@[simp] theorem restartSettle_inputs (s : State) (c : Channel) : (s.restartSettle c).inputs = s.inputs := rfl
@[simp] theorem restartSettle_schedule (s : State) (c : Channel) : (s.restartSettle c).schedule = s.schedule := rfl
@[simp] theorem restartSettle_slot (s : State) (c : Channel) : (s.restartSettle c).slot = s.slot := rfl
@[simp] theorem restartSettle_snap (s : State) (c : Channel) : (s.restartSettle c).snap = s.snap := rfl
@[simp] theorem restartSettle_snapAt (s : State) (c : Channel) : (s.restartSettle c).snapAt = s.snapAt := rfl
@[simp] theorem restartSettle_inTick (s : State) (c : Channel) : (s.restartSettle c).inTick = s.inTick := rfl
@[simp] theorem restartSettle_ticksDue (s : State) (c : Channel) : (s.restartSettle c).ticksDue = s.ticksDue := rfl
@[simp] theorem restartSettle_tickPhase (s : State) (c : Channel) : (s.restartSettle c).tickPhase = s.tickPhase := rfl

/-! ### setGun -/

@[simp] theorem setGun_cfg (s : State) (v : Bool) : (s.setGun v).cfg = s.cfg := rfl
@[simp] theorem setGun_ports (s : State) (v : Bool) : (s.setGun v).ports = s.ports := rfl
@[simp] theorem setGun_ts (s : State) (v : Bool) : (s.setGun v).ts = s.ts := rfl
@[simp] theorem setGun_letT (s : State) (v : Bool) : (s.setGun v).letT = s.letT := rfl
@[simp] theorem setGun_lrt (s : State) (v : Bool) : (s.setGun v).lrt = s.lrt := rfl
@[simp] theorem setGun_echoQ (s : State) (v : Bool) : (s.setGun v).echoQ = s.echoQ := rfl
@[simp] theorem setGun_sync1 (s : State) (v : Bool) : (s.setGun v).sync1 = s.sync1 := rfl
@[simp] theorem setGun_sync2 (s : State) (v : Bool) : (s.setGun v).sync2 = s.sync2 := rfl
@[simp] theorem setGun_trig (s : State) (v : Bool) : (s.setGun v).trig = s.trig := rfl
@[simp] theorem setGun_tseq (s : State) (v : Bool) : (s.setGun v).tseq = s.tseq := rfl
@[simp] theorem setGun_left (s : State) (v : Bool) : (s.setGun v).left = s.left := rfl
@[simp] theorem setGun_right (s : State) (v : Bool) : (s.setGun v).right = s.right := rfl
@[simp] theorem setGun_fireBusy (s : State) (v : Bool) : (s.setGun v).fireBusy = s.fireBusy := rfl
@[simp] theorem setGun_fireT0 (s : State) (v : Bool) : (s.setGun v).fireT0 = s.fireT0 := rfl
@[simp] theorem setGun_mode (s : State) (v : Bool) : (s.setGun v).mode = s.mode := rfl
@[simp] theorem setGun_steer (s : State) (v : Bool) : (s.setGun v).steer = s.steer := rfl
@[simp] theorem setGun_lastValid (s : State) (v : Bool) : (s.setGun v).lastValid = s.lastValid := rfl
@[simp] theorem setGun_lastChar (s : State) (v : Bool) : (s.setGun v).lastChar = s.lastChar := rfl
@[simp] theorem setGun_lastResult (s : State) (v : Bool) : (s.setGun v).lastResult = s.lastResult := rfl
@[simp] theorem setGun_rxq (s : State) (v : Bool) : (s.setGun v).rxq = s.rxq := rfl
@[simp] theorem setGun_rxOvf (s : State) (v : Bool) : (s.setGun v).rxOvf = s.rxOvf := rfl
@[simp] theorem setGun_cuPh (s : State) (v : Bool) : (s.setGun v).cuPh = s.cuPh := rfl
@[simp] theorem setGun_ret (s : State) (v : Bool) : (s.setGun v).ret = s.ret := rfl
@[simp] theorem setGun_draws (s : State) (v : Bool) : (s.setGun v).draws = s.draws := rfl
@[simp] theorem setGun_inputs (s : State) (v : Bool) : (s.setGun v).inputs = s.inputs := rfl
@[simp] theorem setGun_schedule (s : State) (v : Bool) : (s.setGun v).schedule = s.schedule := rfl
@[simp] theorem setGun_slot (s : State) (v : Bool) : (s.setGun v).slot = s.slot := rfl
@[simp] theorem setGun_snap (s : State) (v : Bool) : (s.setGun v).snap = s.snap := rfl
@[simp] theorem setGun_snapAt (s : State) (v : Bool) : (s.setGun v).snapAt = s.snapAt := rfl
@[simp] theorem setGun_inTick (s : State) (v : Bool) : (s.setGun v).inTick = s.inTick := rfl
@[simp] theorem setGun_ticksDue (s : State) (v : Bool) : (s.setGun v).ticksDue = s.ticksDue := rfl
@[simp] theorem setGun_tickPhase (s : State) (v : Bool) : (s.setGun v).tickPhase = s.tickPhase := rfl

/-! ### setTrig -/

@[simp] theorem setTrig_cfg (s : State) (k : Us) (v : Bool) : (s.setTrig k v).cfg = s.cfg := rfl
@[simp] theorem setTrig_ports (s : State) (k : Us) (v : Bool) : (s.setTrig k v).ports = s.ports := rfl
@[simp] theorem setTrig_ts (s : State) (k : Us) (v : Bool) : (s.setTrig k v).ts = s.ts := rfl
@[simp] theorem setTrig_letT (s : State) (k : Us) (v : Bool) : (s.setTrig k v).letT = s.letT := rfl
@[simp] theorem setTrig_lrt (s : State) (k : Us) (v : Bool) : (s.setTrig k v).lrt = s.lrt := rfl
@[simp] theorem setTrig_echoQ (s : State) (k : Us) (v : Bool) : (s.setTrig k v).echoQ = s.echoQ := rfl
@[simp] theorem setTrig_sync1 (s : State) (k : Us) (v : Bool) : (s.setTrig k v).sync1 = s.sync1 := rfl
@[simp] theorem setTrig_sync2 (s : State) (k : Us) (v : Bool) : (s.setTrig k v).sync2 = s.sync2 := rfl
@[simp] theorem setTrig_tseq (s : State) (k : Us) (v : Bool) : (s.setTrig k v).tseq = s.tseq := rfl
@[simp] theorem setTrig_left (s : State) (k : Us) (v : Bool) : (s.setTrig k v).left = s.left := rfl
@[simp] theorem setTrig_right (s : State) (k : Us) (v : Bool) : (s.setTrig k v).right = s.right := rfl
@[simp] theorem setTrig_gun (s : State) (k : Us) (v : Bool) : (s.setTrig k v).gun = s.gun := rfl
@[simp] theorem setTrig_fireBusy (s : State) (k : Us) (v : Bool) : (s.setTrig k v).fireBusy = s.fireBusy := rfl
@[simp] theorem setTrig_fireT0 (s : State) (k : Us) (v : Bool) : (s.setTrig k v).fireT0 = s.fireT0 := rfl
@[simp] theorem setTrig_mode (s : State) (k : Us) (v : Bool) : (s.setTrig k v).mode = s.mode := rfl
@[simp] theorem setTrig_steer (s : State) (k : Us) (v : Bool) : (s.setTrig k v).steer = s.steer := rfl
@[simp] theorem setTrig_lastValid (s : State) (k : Us) (v : Bool) : (s.setTrig k v).lastValid = s.lastValid := rfl
@[simp] theorem setTrig_lastChar (s : State) (k : Us) (v : Bool) : (s.setTrig k v).lastChar = s.lastChar := rfl
@[simp] theorem setTrig_lastResult (s : State) (k : Us) (v : Bool) : (s.setTrig k v).lastResult = s.lastResult := rfl
@[simp] theorem setTrig_rxq (s : State) (k : Us) (v : Bool) : (s.setTrig k v).rxq = s.rxq := rfl
@[simp] theorem setTrig_rxOvf (s : State) (k : Us) (v : Bool) : (s.setTrig k v).rxOvf = s.rxOvf := rfl
@[simp] theorem setTrig_cuPh (s : State) (k : Us) (v : Bool) : (s.setTrig k v).cuPh = s.cuPh := rfl
@[simp] theorem setTrig_ret (s : State) (k : Us) (v : Bool) : (s.setTrig k v).ret = s.ret := rfl
@[simp] theorem setTrig_draws (s : State) (k : Us) (v : Bool) : (s.setTrig k v).draws = s.draws := rfl
@[simp] theorem setTrig_inputs (s : State) (k : Us) (v : Bool) : (s.setTrig k v).inputs = s.inputs := rfl
@[simp] theorem setTrig_schedule (s : State) (k : Us) (v : Bool) : (s.setTrig k v).schedule = s.schedule := rfl
@[simp] theorem setTrig_slot (s : State) (k : Us) (v : Bool) : (s.setTrig k v).slot = s.slot := rfl
@[simp] theorem setTrig_snap (s : State) (k : Us) (v : Bool) : (s.setTrig k v).snap = s.snap := rfl
@[simp] theorem setTrig_snapAt (s : State) (k : Us) (v : Bool) : (s.setTrig k v).snapAt = s.snapAt := rfl
@[simp] theorem setTrig_inTick (s : State) (k : Us) (v : Bool) : (s.setTrig k v).inTick = s.inTick := rfl
@[simp] theorem setTrig_ticksDue (s : State) (k : Us) (v : Bool) : (s.setTrig k v).ticksDue = s.ticksDue := rfl
@[simp] theorem setTrig_tickPhase (s : State) (k : Us) (v : Bool) : (s.setTrig k v).tickPhase = s.tickPhase := rfl

/-! ### raise -/

@[simp] theorem raise_cfg (s : State) (r : Result) : (s.raise r).cfg = s.cfg := rfl
@[simp] theorem raise_ports (s : State) (r : Result) : (s.raise r).ports = s.ports := rfl
@[simp] theorem raise_ts (s : State) (r : Result) : (s.raise r).ts = s.ts := rfl
@[simp] theorem raise_letT (s : State) (r : Result) : (s.raise r).letT = s.letT := rfl
@[simp] theorem raise_lrt (s : State) (r : Result) : (s.raise r).lrt = s.lrt := rfl
@[simp] theorem raise_echoQ (s : State) (r : Result) : (s.raise r).echoQ = s.echoQ := rfl
@[simp] theorem raise_sync1 (s : State) (r : Result) : (s.raise r).sync1 = s.sync1 := rfl
@[simp] theorem raise_sync2 (s : State) (r : Result) : (s.raise r).sync2 = s.sync2 := rfl
@[simp] theorem raise_trig (s : State) (r : Result) : (s.raise r).trig = s.trig := rfl
@[simp] theorem raise_tseq (s : State) (r : Result) : (s.raise r).tseq = s.tseq := rfl
@[simp] theorem raise_left (s : State) (r : Result) : (s.raise r).left = s.left := rfl
@[simp] theorem raise_right (s : State) (r : Result) : (s.raise r).right = s.right := rfl
@[simp] theorem raise_gun (s : State) (r : Result) : (s.raise r).gun = s.gun := rfl
@[simp] theorem raise_fireBusy (s : State) (r : Result) : (s.raise r).fireBusy = s.fireBusy := rfl
@[simp] theorem raise_fireT0 (s : State) (r : Result) : (s.raise r).fireT0 = s.fireT0 := rfl
@[simp] theorem raise_mode (s : State) (r : Result) : (s.raise r).mode = s.mode := rfl
@[simp] theorem raise_steer (s : State) (r : Result) : (s.raise r).steer = s.steer := rfl
@[simp] theorem raise_lastValid (s : State) (r : Result) : (s.raise r).lastValid = s.lastValid := rfl
@[simp] theorem raise_lastChar (s : State) (r : Result) : (s.raise r).lastChar = s.lastChar := rfl
@[simp] theorem raise_rxq (s : State) (r : Result) : (s.raise r).rxq = s.rxq := rfl
@[simp] theorem raise_rxOvf (s : State) (r : Result) : (s.raise r).rxOvf = s.rxOvf := rfl
@[simp] theorem raise_cuPh (s : State) (r : Result) : (s.raise r).cuPh = s.cuPh := rfl
@[simp] theorem raise_trace (s : State) (r : Result) : (s.raise r).trace = s.trace := rfl
@[simp] theorem raise_ret (s : State) (r : Result) : (s.raise r).ret = s.ret := rfl
@[simp] theorem raise_draws (s : State) (r : Result) : (s.raise r).draws = s.draws := rfl
@[simp] theorem raise_inputs (s : State) (r : Result) : (s.raise r).inputs = s.inputs := rfl
@[simp] theorem raise_schedule (s : State) (r : Result) : (s.raise r).schedule = s.schedule := rfl
@[simp] theorem raise_slot (s : State) (r : Result) : (s.raise r).slot = s.slot := rfl
@[simp] theorem raise_snap (s : State) (r : Result) : (s.raise r).snap = s.snap := rfl
@[simp] theorem raise_snapAt (s : State) (r : Result) : (s.raise r).snapAt = s.snapAt := rfl
@[simp] theorem raise_inTick (s : State) (r : Result) : (s.raise r).inTick = s.inTick := rfl
@[simp] theorem raise_ticksDue (s : State) (r : Result) : (s.raise r).ticksDue = s.ticksDue := rfl
@[simp] theorem raise_tickPhase (s : State) (r : Result) : (s.raise r).tickPhase = s.tickPhase := rfl

/-! ### rxDrop -/

@[simp] theorem rxDrop_cfg (s : State) (n : Nat) : (s.rxDrop n).cfg = s.cfg := rfl
@[simp] theorem rxDrop_ports (s : State) (n : Nat) : (s.rxDrop n).ports = s.ports := rfl
@[simp] theorem rxDrop_ts (s : State) (n : Nat) : (s.rxDrop n).ts = s.ts := rfl
@[simp] theorem rxDrop_letT (s : State) (n : Nat) : (s.rxDrop n).letT = s.letT := rfl
@[simp] theorem rxDrop_lrt (s : State) (n : Nat) : (s.rxDrop n).lrt = s.lrt := rfl
@[simp] theorem rxDrop_echoQ (s : State) (n : Nat) : (s.rxDrop n).echoQ = s.echoQ := rfl
@[simp] theorem rxDrop_sync1 (s : State) (n : Nat) : (s.rxDrop n).sync1 = s.sync1 := rfl
@[simp] theorem rxDrop_sync2 (s : State) (n : Nat) : (s.rxDrop n).sync2 = s.sync2 := rfl
@[simp] theorem rxDrop_trig (s : State) (n : Nat) : (s.rxDrop n).trig = s.trig := rfl
@[simp] theorem rxDrop_tseq (s : State) (n : Nat) : (s.rxDrop n).tseq = s.tseq := rfl
@[simp] theorem rxDrop_left (s : State) (n : Nat) : (s.rxDrop n).left = s.left := rfl
@[simp] theorem rxDrop_right (s : State) (n : Nat) : (s.rxDrop n).right = s.right := rfl
@[simp] theorem rxDrop_gun (s : State) (n : Nat) : (s.rxDrop n).gun = s.gun := rfl
@[simp] theorem rxDrop_fireBusy (s : State) (n : Nat) : (s.rxDrop n).fireBusy = s.fireBusy := rfl
@[simp] theorem rxDrop_fireT0 (s : State) (n : Nat) : (s.rxDrop n).fireT0 = s.fireT0 := rfl
@[simp] theorem rxDrop_mode (s : State) (n : Nat) : (s.rxDrop n).mode = s.mode := rfl
@[simp] theorem rxDrop_steer (s : State) (n : Nat) : (s.rxDrop n).steer = s.steer := rfl
@[simp] theorem rxDrop_lastValid (s : State) (n : Nat) : (s.rxDrop n).lastValid = s.lastValid := rfl
@[simp] theorem rxDrop_lastChar (s : State) (n : Nat) : (s.rxDrop n).lastChar = s.lastChar := rfl
@[simp] theorem rxDrop_lastResult (s : State) (n : Nat) : (s.rxDrop n).lastResult = s.lastResult := rfl
@[simp] theorem rxDrop_rxOvf (s : State) (n : Nat) : (s.rxDrop n).rxOvf = s.rxOvf := rfl
@[simp] theorem rxDrop_cuPh (s : State) (n : Nat) : (s.rxDrop n).cuPh = s.cuPh := rfl
@[simp] theorem rxDrop_trace (s : State) (n : Nat) : (s.rxDrop n).trace = s.trace := rfl
@[simp] theorem rxDrop_ret (s : State) (n : Nat) : (s.rxDrop n).ret = s.ret := rfl
@[simp] theorem rxDrop_draws (s : State) (n : Nat) : (s.rxDrop n).draws = s.draws := rfl
@[simp] theorem rxDrop_inputs (s : State) (n : Nat) : (s.rxDrop n).inputs = s.inputs := rfl
@[simp] theorem rxDrop_schedule (s : State) (n : Nat) : (s.rxDrop n).schedule = s.schedule := rfl
@[simp] theorem rxDrop_slot (s : State) (n : Nat) : (s.rxDrop n).slot = s.slot := rfl
@[simp] theorem rxDrop_snap (s : State) (n : Nat) : (s.rxDrop n).snap = s.snap := rfl
@[simp] theorem rxDrop_snapAt (s : State) (n : Nat) : (s.rxDrop n).snapAt = s.snapAt := rfl
@[simp] theorem rxDrop_inTick (s : State) (n : Nat) : (s.rxDrop n).inTick = s.inTick := rfl
@[simp] theorem rxDrop_ticksDue (s : State) (n : Nat) : (s.rxDrop n).ticksDue = s.ticksDue := rfl
@[simp] theorem rxDrop_tickPhase (s : State) (n : Nat) : (s.rxDrop n).tickPhase = s.tickPhase := rfl

/-! ### loadSync -/

@[simp] theorem loadSync_cfg (s : State) : (s.loadSync).cfg = s.cfg := rfl
@[simp] theorem loadSync_ports (s : State) : (s.loadSync).ports = s.ports := rfl
@[simp] theorem loadSync_ts (s : State) : (s.loadSync).ts = s.ts := rfl
@[simp] theorem loadSync_letT (s : State) : (s.loadSync).letT = s.letT := rfl
@[simp] theorem loadSync_lrt (s : State) : (s.loadSync).lrt = s.lrt := rfl
@[simp] theorem loadSync_trig (s : State) : (s.loadSync).trig = s.trig := rfl
@[simp] theorem loadSync_tseq (s : State) : (s.loadSync).tseq = s.tseq := rfl
@[simp] theorem loadSync_left (s : State) : (s.loadSync).left = s.left := rfl
@[simp] theorem loadSync_right (s : State) : (s.loadSync).right = s.right := rfl
@[simp] theorem loadSync_gun (s : State) : (s.loadSync).gun = s.gun := rfl
@[simp] theorem loadSync_fireBusy (s : State) : (s.loadSync).fireBusy = s.fireBusy := rfl
@[simp] theorem loadSync_fireT0 (s : State) : (s.loadSync).fireT0 = s.fireT0 := rfl
@[simp] theorem loadSync_mode (s : State) : (s.loadSync).mode = s.mode := rfl
@[simp] theorem loadSync_steer (s : State) : (s.loadSync).steer = s.steer := rfl
@[simp] theorem loadSync_lastValid (s : State) : (s.loadSync).lastValid = s.lastValid := rfl
@[simp] theorem loadSync_lastChar (s : State) : (s.loadSync).lastChar = s.lastChar := rfl
@[simp] theorem loadSync_lastResult (s : State) : (s.loadSync).lastResult = s.lastResult := rfl
@[simp] theorem loadSync_rxq (s : State) : (s.loadSync).rxq = s.rxq := rfl
@[simp] theorem loadSync_rxOvf (s : State) : (s.loadSync).rxOvf = s.rxOvf := rfl
@[simp] theorem loadSync_cuPh (s : State) : (s.loadSync).cuPh = s.cuPh := rfl
@[simp] theorem loadSync_trace (s : State) : (s.loadSync).trace = s.trace := rfl
@[simp] theorem loadSync_ret (s : State) : (s.loadSync).ret = s.ret := rfl
@[simp] theorem loadSync_draws (s : State) : (s.loadSync).draws = s.draws := rfl
@[simp] theorem loadSync_inputs (s : State) : (s.loadSync).inputs = s.inputs := rfl
@[simp] theorem loadSync_schedule (s : State) : (s.loadSync).schedule = s.schedule := rfl
@[simp] theorem loadSync_slot (s : State) : (s.loadSync).slot = s.slot := rfl
@[simp] theorem loadSync_snap (s : State) : (s.loadSync).snap = s.snap := rfl
@[simp] theorem loadSync_snapAt (s : State) : (s.loadSync).snapAt = s.snapAt := rfl
@[simp] theorem loadSync_inTick (s : State) : (s.loadSync).inTick = s.inTick := rfl
@[simp] theorem loadSync_ticksDue (s : State) : (s.loadSync).ticksDue = s.ticksDue := rfl
@[simp] theorem loadSync_tickPhase (s : State) : (s.loadSync).tickPhase = s.tickPhase := rfl

/-! ### The fields the updates write -/

@[simp] theorem motor_left (s : State) : s.motor .left = s.left := rfl
@[simp] theorem motor_right (s : State) : s.motor .right = s.right := rfl

@[simp] theorem setMotor_left_left (s : State) (m : Motor) : (s.setMotor .left m).left = m := rfl
@[simp] theorem setMotor_left_right (s : State) (m : Motor) : (s.setMotor .left m).right = s.right := rfl
@[simp] theorem setMotor_right_left (s : State) (m : Motor) : (s.setMotor .right m).left = s.left := rfl
@[simp] theorem setMotor_right_right (s : State) (m : Motor) : (s.setMotor .right m).right = m := rfl

/-- Writing a channel and reading one: the channel written reads as written, the other as before. -/
theorem motor_setMotor (s : State) (c d : Channel) (m : Motor) :
    (s.setMotor c m).motor d = if d = c then m else s.motor d := by
  cases c <;> cases d <;> rfl

@[simp] theorem motor_setMotor_self (s : State) (c : Channel) (m : Motor) : (s.setMotor c m).motor c = m := by
  cases c <;> rfl

theorem motor_setEn (s : State) (c d : Channel) (v : Bool) :
    (s.setEn c v).motor d = if d = c then { s.motor c with en := v } else s.motor d := by
  cases c <;> cases d <;> rfl

theorem motor_setDir (s : State) (c d : Channel) (v : Bool) :
    (s.setDir c v).motor d = if d = c then { s.motor c with dir := v } else s.motor d := by
  cases c <;> cases d <;> rfl

theorem motor_setStep (s : State) (c d : Channel) (v : Bool) :
    (s.setStep c v).motor d = if d = c then { s.motor c with step := v } else s.motor d := by
  cases c <;> cases d <;> rfl

theorem motor_setRun (s : State) (c d : Channel) (v : Bool) :
    (s.setRun c v).motor d = if d = c then { s.motor c with run := v } else s.motor d := by
  cases c <;> cases d <;> rfl

theorem motor_setDivsel (s : State) (c d : Channel) (v : Bool) :
    (s.setDivsel c v).motor d = if d = c then { s.motor c with divsel := v } else s.motor d := by
  cases c <;> cases d <;> rfl

theorem motor_restartSettle (s : State) (c d : Channel) :
    (s.restartSettle c).motor d = if d = c then { s.motor c with settleT := s.ts } else s.motor d := by
  cases c <;> cases d <;> rfl

@[simp] theorem setEn_trace (s : State) (c : Channel) (v : Bool) :
    (s.setEn c v).trace = s.trace ++ changed (.mEn c) (s.motor c).en v (enPin s.cfg v) := rfl
@[simp] theorem setDir_trace (s : State) (c : Channel) (v : Bool) :
    (s.setDir c v).trace = s.trace ++ changed (.mDir c) (s.motor c).dir v v := rfl
@[simp] theorem setStep_trace (s : State) (c : Channel) (v : Bool) :
    (s.setStep c v).trace = s.trace ++ changed (.mStep c) (s.motor c).step v v := rfl
@[simp] theorem setGun_gun (s : State) (v : Bool) : (s.setGun v).gun = v := rfl
@[simp] theorem setGun_trace (s : State) (v : Bool) :
    (s.setGun v).trace = s.trace ++ changed .gun s.gun v v := rfl
@[simp] theorem setTrig_trig (s : State) (k : Us) (v : Bool) : (s.setTrig k v).trig = s.trig.set k v := rfl
@[simp] theorem setTrig_trace (s : State) (k : Us) (v : Bool) :
    (s.setTrig k v).trace = s.trace ++ changed (.trig k) s.trig[k] v v := rfl
@[simp] theorem raise_lastResult (s : State) (r : Result) : (s.raise r).lastResult = r := rfl
@[simp] theorem rxDrop_rxq (s : State) (n : Nat) : (s.rxDrop n).rxq = s.rxq.drop n := rfl
@[simp] theorem loadSync_echoQ (s : State) : s.loadSync.echoQ = s.ports.echo := rfl
@[simp] theorem loadSync_sync1 (s : State) : s.loadSync.sync1 = s.ports.echo := rfl
@[simp] theorem loadSync_sync2 (s : State) : s.loadSync.sync2 = s.ports.echo := rfl

end Sys2Proof.Machine.State
end

