-- ==== Sys2Proof/Laws/Ops.lean ====
section
/-!
SUPPORT. One lemma per shared operation that says once everything it does, and the two lemmas about the build check through
which every meaning answers.
-/
namespace Sys2Proof.Machine

/-! ### The build check -/

theorem onBuild_admitted {s : State} (h : Admitted s) (k : Out) : onBuild s k = k := by
  simp [onBuild, h]

/-- An operation that answers a next state runs in an admitted build. -/
theorem onBuild_next {s t : State} {k : Out} (h : onBuild s k = .next t) : Admitted s ∧ k = .next t := by
  unfold onBuild at h
  split at h
  · exact ⟨by assumption, h⟩
  · cases h

/-- A meaning that always goes on answers its next state exactly in an admitted build. -/
theorem onBuild_next_iff {s t u : State} : onBuild s (.next u) = .next t ↔ Admitted s ∧ u = t := by
  unfold onBuild
  split <;> simp_all [Admitted]

/-! ### Time -/

theorem passed_untimed {s : State} (h : s.cfg.timing = .untimed) (t0 : Nat) (d : Nat) : s.passed t0 d = true := by
  simp [State.passed, h]

theorem passed_timed {s : State} (h : s.cfg.timing = .timed) (t0 : Nat) (d : Nat) :
    s.passed t0 d = decide (d ≤ timeSub s.cfg.tsW s.ts t0) := by
  unfold State.passed
  rw [h]
  rfl

/-- A modular difference is a value of `w` bits (R10). -/
theorem timeSub_lt (w : Nat) (a b : Nat) : timeSub w a b < 2 ^ w := Nat.mod_lt _ (Nat.two_pow_pos w)

/-- `timeSub` is the non-negative remainder of the difference (R10). -/
theorem timeSub_eq_emod (w : Nat) (a b : Nat) : (timeSub w a b : Int) = ((a : Int) - (b : Int)) % 2 ^ w := by
  have hb : b % 2 ^ w ≤ 2 ^ w := (Nat.mod_lt b (Nat.two_pow_pos w)).le
  unfold timeSub
  push_cast [Nat.cast_sub hb]
  rw [show (a : Int) + (2 ^ w - (b : Int) % 2 ^ w) = (a - (b : Int) % 2 ^ w) + 2 ^ w by ring, Int.add_emod_right,
    Int.sub_emod, Int.emod_emod_of_dvd _ dvd_rfl, ← Int.sub_emod]

/-! ### Events -/

theorem changed_same (pin : Pin) (v level : Bool) : changed pin v v level = [] := by simp [changed]

theorem changed_eq_onChange (pin : Pin) (old new : Bool) : changed pin old new new = onChange pin old new := rfl

/-! ### Motor operations -/

/-- MD.HOLD as one update (R153). -/
theorem hold_spec (s : State) (c : Channel) :
    s.hold c = { s.setMotor c (s.motor c).held with trace := s.trace ++ holdEvents s c } := by
  cases c
  · cases h : s.left.en <;>
      simp [State.hold, State.setEn, State.setRun, State.setMotor, State.motor, Motor.held, holdEvents, changed, enPin, h]
  · cases h : s.right.en <;>
      simp [State.hold, State.setEn, State.setRun, State.setMotor, State.motor, Motor.held, holdEvents, changed, enPin, h]

/-- MD.RUN as one update (R154). -/
theorem run_spec (s : State) (c : Channel) (dir divsel : Bool) :
    s.run c dir divsel =
      { s.setMotor c ((s.motor c).running dir divsel s.ts) with trace := s.trace ++ runEvents s c dir } := by
  cases c
  · cases h : s.left.en <;>
      simp [State.run, State.setEn, State.setDir, State.setDivsel, State.restartSettle, State.setRun, State.setMotor,
        State.motor, Motor.running, runEvents, onChange, changed, enPin, h]
  · cases h : s.right.en <;>
      simp [State.run, State.setEn, State.setDir, State.setDivsel, State.restartSettle, State.setRun, State.setMotor,
        State.motor, Motor.running, runEvents, onChange, changed, enPin, h]

/-- Both channels run (R214 to R217). -/
theorem runBoth_spec (s : State) (dl dr v : Bool) : s.runBoth dl dr v = runningBoth s dl dr v := by
  simp [State.runBoth, run_spec, runningBoth, State.setMotor, runEvents, State.motor]

/-- MD.STOPALL as one update (R156). -/
theorem stopAll_spec (s : State) : s.stopAll = stoppedAll s := by
  cases h : s.cfg.stopallRetracts <;>
    simp [State.stopAll, hold_spec, stoppedAll, State.setMotor, holdEvents, State.motor, State.setGun,
      onChange, changed, h]

/-- MD.SETVEL: hold at 0, else run in the direction of the sign at full speed (R155). -/
theorem setVel_spec (s : State) (c : Channel) (v : Int) :
    s.setVel c v = if v = 0 then s.hold c else s.run c (decide (0 < v)) false := rfl

/-- MD.FIRE as one update (R157). -/
theorem fire_spec (s : State) :
    s.fire =
      { s with
        left := s.left.held, right := s.right.held, gun := true, fireBusy := true, fireT0 := s.ts, cuPh := .firing,
        trace := s.trace ++ holdEvents s .left ++ holdEvents s .right ++ onChange .gun s.gun true } := by
  simp [State.fire, hold_spec, State.setMotor, holdEvents, State.motor, State.setGun, onChange, changed]

/-- The first stage of MD.PULSE as one update (R152). -/
theorem pulseBegin_spec (s : State) (c : Channel) (dir : Bool) :
    s.pulseBegin c dir =
      { s.setMotor c { s.motor c with dir := dir, settleT := s.ts } with
        cuPh := .pulse c .settle s.ts, trace := s.trace ++ onChange (.mDir c) (s.motor c).dir dir } := by
  cases c <;>
    simp [State.pulseBegin, State.setDir, State.restartSettle, State.setMotor, State.motor, changed_eq_onChange]

/-- The later stages of MD.PULSE (R152). -/
theorem pulseNext_spec (s : State) (c : Channel) (stage : PulseStage) (t0 : Nat) :
    s.pulseNext c stage t0 =
      match stage with
      | .settle => if s.passed t0 s.cfg.tSettle then { s.setStep c false with cuPh := .pulse c .low s.ts } else s
      | .low => if s.passed t0 s.cfg.tStepLow then { s.setStep c true with cuPh := .sleep s.ts } else s := by
  cases stage <;> rfl

/-! ### The receive FIFO -/

/-- ENV.RXPUSH: the byte goes to the tail, or is lost and sets the flag; nothing else changes (R71). -/
theorem rxPush_spec (s : State) (b : Byte) :
    (s.rxq.length < s.cfg.rxDepth ∧ s.rxPush b = { s with rxq := s.rxq ++ [b] }) ∨
      (s.cfg.rxDepth ≤ s.rxq.length ∧ s.rxPush b = { s with rxOvf := true }) := by
  by_cases h : s.rxq.length < s.cfg.rxDepth
  · exact .inl ⟨h, by simp [State.rxPush, State.rxCount, h]⟩
  · exact .inr ⟨by omega, by simp [State.rxPush, State.rxCount, h]⟩

/-- A push keeps the FIFO within its depth (R70). -/
theorem rxPush_bounded {s : State} (h : FifoBounded s) (b : Byte) : FifoBounded (s.rxPush b) := by
  obtain ⟨hl, he⟩ | ⟨_, he⟩ := rxPush_spec s b
  · rw [he]; simp only [FifoBounded, List.length_append, List.length_singleton]; omega
  · rw [he]; exact h

/-- A drop keeps the FIFO within its depth (R70). -/
theorem rxDrop_bounded {s : State} (h : FifoBounded s) (n : Nat) : FifoBounded (s.rxDrop n) := by
  simp only [FifoBounded, State.rxDrop_rxq, State.rxDrop_cfg, List.length_drop] at *
  omega

/-! ### Reset and release -/

/-- The release of `RST` as one update (R29). -/
theorem release_spec (s : State) : s.release = released s := by
  unfold State.release released State.loadSync
  cases h : s.ports.rst <;> simp
  rw [← h]

/-- A reset clock leaves the build, the ports and the environment's future as they are, and counts its draw (R51, R270). -/
theorem resetClock_frame (s : State) :
    s.resetClock.cfg = s.cfg ∧ s.resetClock.ports = s.ports ∧ s.resetClock.inputs = s.inputs ∧
      s.resetClock.schedule = s.schedule ∧ s.resetClock.slot = s.slot ∧ s.resetClock.draws = s.draws + 1 :=
  ⟨rfl, rfl, rfl, rfl, rfl, rfl⟩

end Sys2Proof.Machine
end

