-- ==== Sys2Proof/Laws/Clock.lean ====
section
/-!
SUPPORT. What one step can be: a move of an agent or of the environment through `exec`, or a place of the clock where nobody
moves. Later proofs about `step` cite `step_cases` and do not unfold it.
-/
namespace Sys2Proof.Machine

/-- `r` differs from `s` only in who moves next, in the release of `RST` and in the count of `TICK`s due. -/
def SameBlock (s r : State) : Prop :=
  r = { s with
    schedule := r.schedule, slot := r.slot, ticksDue := r.ticksDue
    ports := r.ports, echoQ := r.echoQ, sync1 := r.sync1, sync2 := r.sync2 }

theorem leaveSlot_same (s : State) : SameBlock s (leaveSlot s) := by
  unfold leaveSlot
  split
  · split <;> rfl
  · rfl

theorem countTicks_spec (s : State) :
    countTicks s = { s with ticksDue := (countTicks s).ticksDue, tickPhase := (countTicks s).tickPhase } := by
  unfold countTicks
  split <;> rfl

/-- The ways a step answers a next state, each with the state its operation ran on. -/
inductive StepCase (s t : State) : Prop where
  /-- an agent or the environment moved -/
  | moved (m : Move) (r : State) (hr : SameBlock s r) (h : exec (moveInstr s m) r = .next t)
  /-- CU is inside a roam step and keeps the turn -/
  | reading (hin : s.inTick = true) (h : exec .cuTick s = .next t)
  /-- a reset clock: the ports were read and the reset ran -/
  | resetAtEdge (hslot : s.slot = .edge) (hrst : (nextPorts s).rst = true) (h : exec .rst (atEdge s) = .next t)
  /-- the `CLK` edge of the first clock after a reset -/
  | released (hslot : s.slot = .edge) (hrst : (nextPorts s).rst = false) (hwas : s.ports.rst = true)
      (h : t = { countTicks (atEdge s).loadSync with slot := .rx })
  /-- any other `CLK` edge -/
  | edge (hslot : s.slot = .edge) (hrst : (nextPorts s).rst = false) (hwas : s.ports.rst = false)
      (h : t = { countTicks (atEdge s) with slot := .rx })
  /-- a place of the clock where nobody moves: no byte presented, or no `TICK` due -/
  | idle (h : t = leaveSlot s)

theorem slotTurn_cases {s t : State} (h : slotTurn s = .next t) : StepCase s t := by
  unfold slotTurn at h
  split at h
  · next hin => exact .reading hin h
  · split at h
    · next hslot =>
      unfold edgeTurn at h
      split at h
      · next hr => exact .resetAtEdge hslot hr h
      · next hr =>
        have hr' : (nextPorts s).rst = false := by simpa using hr
        split at h
        · next hw => exact .released hslot hr' hw (by cases h; rfl)
        · next hw => exact .edge hslot hr' (by simpa using hw) (by cases h; rfl)
    · split at h
      · next m _ => exact .moved m (leaveSlot s) (leaveSlot_same s) h
      · exact .idle (by cases h; rfl)

/-- Everything a step that answers a next state can have done. -/
theorem step_cases {s t : State} (h : step s = .next t) : Admitted s ∧ StepCase s t := by
  obtain ⟨ha, h⟩ := onBuild_next h
  refine ⟨ha, ?_⟩
  unfold turn at h
  split at h
  · next m rest _ _ => exact .moved m _ (by rw [release_spec]; rfl) h
  · exact slotTurn_cases h
  · exact slotTurn_cases h

end Sys2Proof.Machine
end

