-- ==== Sys2Proof/Laws/Timer.lean ====
section
/-!
SUPPORT. Everything the pulse timer's operations can do, one case lemma each.
-/
namespace Sys2Proof.Machine

/-- The shift of one channel's synchronizer, without a capture (R181). -/
theorem ptSample_quiet {s : State} {i : Us} (h : s.sync2[i] = s.echoQ[i]) :
    ptSample i s = { s with sync2 := s.sync2.set i s.sync1[i], sync1 := s.sync1.set i s.ports.echo[i] } := by
  unfold ptSample
  simp only []
  rw [if_pos h]

/-- A sample that finds the line risen (R181, R182). -/
theorem ptSample_rise {s : State} {i : Us} (h2 : s.sync2[i] = true) (hq : s.echoQ[i] = false) :
    ptSample i s = { s with
      sync2 := s.sync2.set i s.sync1[i], sync1 := s.sync1.set i s.ports.echo[i],
      echoQ := s.echoQ.set i true, letT := s.letT.set i s.ts } := by
  unfold ptSample
  simp [h2, hq, ptRise]

/-- A sample that finds the line fallen (R181, R183). -/
theorem ptSample_fall {s : State} {i : Us} (h2 : s.sync2[i] = false) (hq : s.echoQ[i] = true) :
    ptSample i s = { s with
      sync2 := s.sync2.set i s.sync1[i], sync1 := s.sync1.set i s.ports.echo[i],
      echoQ := s.echoQ.set i false, lrt := s.lrt.set i (timeSub s.cfg.tsW s.ts s.letT[i]) } := by
  unfold ptSample
  simp [h2, hq, ptFall]

/-- A sample is one of the three. -/
theorem ptSample_cases (s : State) (i : Us) :
    s.sync2[i] = s.echoQ[i] ∨ (s.sync2[i] = true ∧ s.echoQ[i] = false) ∨ (s.sync2[i] = false ∧ s.echoQ[i] = true) := by
  cases s.sync2[i] <;> cases s.echoQ[i] <;> simp

/-- The trigger after channel `k`'s: the next one rises, or, after channel 4, the sequencer sleeps (R186). -/
theorem trigAdvance_spec (s : State) (k : Us) :
    (k = 4 ∧ trigAdvance k s = { s.setTrig k false with tseq := .sleep s.ts }) ∨
    (∃ j : Us, j.val = k.val + 1 ∧ trigAdvance k s = trigRaise j (s.setTrig k false)) := by
  match k with
  | 0 => exact .inr ⟨1, rfl, rfl⟩
  | 1 => exact .inr ⟨2, rfl, rfl⟩
  | 2 => exact .inr ⟨3, rfl, rfl⟩
  | 3 => exact .inr ⟨4, rfl, rfl⟩
  | 4 => exact .inl ⟨rfl, rfl⟩

/-- One move of the trigger sequencer: it raises channel 0, it moves on from a channel, or a wait still runs (R186). -/
theorem ptTrigall_cases (s : State) :
    ((∀ k t0, s.tseq ≠ .high k t0) ∧ ptTrigall s = trigRaise 0 s) ∨
    (∃ k t0, s.tseq = .high k t0 ∧ s.passed t0 s.cfg.tTrig = true ∧ ptTrigall s = trigAdvance k s) ∨
    ptTrigall s = s := by
  unfold ptTrigall
  split
  · next h => exact .inl ⟨by simp [h], rfl⟩
  · next h =>
    split
    · exact .inl ⟨by simp [h], rfl⟩
    · exact .inr (.inr rfl)
  · next k t0 h =>
    split
    · next hp => exact .inr (.inl ⟨k, t0, h, hp, rfl⟩)
    · exact .inr (.inr rfl)

/-- A read of a snapshot keeps what was read before and adds the channel it reads (R188). -/
theorem readNext_snap (s : State) (i : Us) :
    (readNext s).snap[i] = if i = s.snapAt then s.lrt[i] else s.snap[i] := by
  unfold readNext
  by_cases h : i = s.snapAt
  · subst h; simp
  · have h' : s.snapAt.val ≠ i.val := fun e => h (Fin.ext e.symm)
    simp [h, h']

/-- One move of PT.SNAPSHOT: a read, and with the last one the value returned (R188). -/
theorem ptSnapshot_cases (s : State) :
    (s.snapAt = 4 ∧ ptSnapshot s = { readNext s with ret := some (.readings (readNext s).snap) }) ∨
    (s.snapAt ≠ 4 ∧ ptSnapshot s = readNext s) := by
  unfold ptSnapshot
  split
  · exact .inl ⟨by assumption, rfl⟩
  · exact .inr ⟨by assumption, rfl⟩

end Sys2Proof.Machine
end

