-- ==== Sys2Proof/Laws/Control.lean ====
section
/-!
SUPPORT. What the dispatchers, the characters and the parts of a control tick can do.
-/
namespace Sys2Proof.Machine

/-! ### Steering (R222, R223) -/

/-- APPLY as one update. -/
theorem applySteer_spec (cmd : SteeringCommand) (s : State) :
    applySteer cmd s = match cmd with
      | .forward => runningBoth s true true false
      | .left => runningBoth s false true true
      | .right => runningBoth s true false true
      | .stop => stoppedAll s := by
  cases cmd <;> simp [applySteer, runBoth_spec, stopAll_spec]

/-- RM's decision on readings `r` applies Right, applies Forward, or changes nothing (R200, R222). -/
theorem steerBy_cases (r : Readings) (s : State) :
    (r[center] < s.cfg.wallLimit ∧ s.steer ≠ .right ∧
      steerBy r s = { runningBoth s true false true with steer := .right }) ∨
    (s.cfg.wallLimit ≤ r[center] ∧ s.steer ≠ .forward ∧
      steerBy r s = { runningBoth s true true false with steer := .forward }) ∨
    ((r[center] < s.cfg.wallLimit → s.steer = .right) ∧
      (s.cfg.wallLimit ≤ r[center] → s.steer = .forward) ∧ steerBy r s = s) := by
  unfold steerBy rmDecide
  by_cases h : r[center] < s.cfg.wallLimit
  · simp only [h, if_true, steerOf]
    by_cases hs : Steer.right = s.steer
    · refine .inr (.inr ⟨fun _ => hs.symm, fun h' => by omega, by rw [if_pos hs]⟩)
    · exact .inl ⟨trivial, Ne.symm hs, by rw [if_neg hs, applySteer_spec]⟩
  · simp only [h, if_false, steerOf]
    by_cases hs : Steer.forward = s.steer
    · refine .inr (.inr ⟨fun h' => absurd h' (by simp), fun _ => hs.symm, by rw [if_pos hs]⟩)
    · exact .inr (.inl ⟨by omega, Ne.symm hs, by rw [if_neg hs, applySteer_spec]⟩)

/-- RM's decision writes the motors, the trace and `STEER` only. -/
theorem steerBy_frame (r : Readings) (s : State) :
    steerBy r s = { s with
      left := (steerBy r s).left, right := (steerBy r s).right, trace := (steerBy r s).trace, steer := (steerBy r s).steer } := by
  rcases steerBy_cases r s with ⟨_, _, e⟩ | ⟨_, _, e⟩ | ⟨_, _, e⟩ <;> rw [e] <;> rfl

/-- A roam step reads, and with the last read decides on the five readings (R188, R222). -/
theorem roamStep_cases (s : State) :
    (s.snapAt = 4 ∧ roamStep s = steerBy (readNext s).snap (readNext s)) ∨ (s.snapAt ≠ 4 ∧ roamStep s = readNext s) := by
  unfold roamStep
  split
  · exact .inl ⟨by assumption, rfl⟩
  · exact .inr ⟨by assumption, rfl⟩

/-! ### Characters (R212 to R221) -/

/-- The dispatch of a character keeps the build and the debounce memory. -/
theorem dispatchT_frame (ch : Byte) (s : State) :
    (dispatchT ch s).cfg = s.cfg ∧ (dispatchT ch s).lastValid = s.lastValid ∧ (dispatchT ch s).lastChar = s.lastChar := by
  unfold dispatchT
  split_ifs <;>
    simp [tW, tS, tA, tD, tF, tR, tQ, tOther, runBoth_spec, stopAll_spec, fire_spec, runningBoth, stoppedAll, State.raise]
  split <;> simp

/-- The dispatch of a character leaves CU's phase, or starts a fire. -/
theorem dispatchT_cuPh (ch : Byte) (s : State) : (dispatchT ch s).cuPh = s.cuPh ∨ (dispatchT ch s).cuPh = .firing := by
  unfold dispatchT
  split_ifs <;>
    simp [tW, tS, tA, tD, tF, tR, tQ, tOther, runBoth_spec, stopAll_spec, fire_spec, runningBoth, stoppedAll, State.raise]
  split <;> simp

/-- A character is discarded, or accepted and dispatched. -/
theorem tAccept_cases (ch : Byte) (s : State) :
    (debounced ch s = true ∧ tAccept ch s = s.raise .debounced) ∨
    (debounced ch s = false ∧ tAccept ch s = dispatchT ch (acceptChar ch s)) := by
  unfold tAccept
  cases debounced ch s <;> simp

/-- After T.ACCEPT the character is the last accepted one, and the build stays. -/
theorem tAccept_frame (ch : Byte) (s : State) :
    (tAccept ch s).cfg = s.cfg ∧ (tAccept ch s).lastValid = true ∧ (tAccept ch s).lastChar = ch := by
  rcases tAccept_cases ch s with ⟨h, e⟩ | ⟨_, e⟩
  · simp only [debounced, Bool.and_eq_true, beq_iff_eq] at h
    rw [e]
    exact ⟨rfl, h.1, h.2.symm⟩
  · obtain ⟨a, b, c⟩ := dispatchT_frame ch (acceptChar ch s)
    rw [e, a, b, c]
    exact ⟨rfl, rfl, rfl⟩

/-- T.ACCEPT leaves CU's phase, or starts a fire. -/
theorem tAccept_cuPh (ch : Byte) (s : State) : (tAccept ch s).cuPh = s.cuPh ∨ (tAccept ch s).cuPh = .firing := by
  rcases tAccept_cases ch s with ⟨_, e⟩ | ⟨_, e⟩ <;> rw [e]
  · exact .inl rfl
  · exact dispatchT_cuPh ch (acceptChar ch s)

/-! ### The framer (R120) -/

/-- A framer step leaves CU's phase, or begins a pulse. -/
theorem sfFrame_cuPh (s : State) : (sfFrame s).cuPh = s.cuPh ∨ ∃ c, (sfFrame s).cuPh = .pulse c .settle s.ts := by
  unfold sfFrame
  split
  · split
    · unfold dispatchA
      simp only []
      split_ifs <;> simp [laBadframe, laStop, laGun, laLeft, laRight, laUnknown, State.raise, pulseBegin_spec]
    · simp
  · split
    · unfold dispatchB
      simp only []
      split_ifs <;>
        simp [lbBadframe, lbStopall, lbGun, lbSetl, lbSetr, lbUnknown, State.raise, stopAll_spec, stoppedAll, setVel_spec,
          hold_spec, run_spec] <;>
        split <;> simp
    · simp
  · simp

/-! ### The tick (R210) -/

/-- The end of a tick sends CU to sleep, unless an MD.PULSE of this tick is in progress. -/
theorem endTick_cases (s : State) :
    (∃ c stage t0, s.cuPh = .pulse c stage t0 ∧ endTick s = s) ∨
    (NotPulsing s ∧ endTick s = { s with cuPh := .sleep s.ts }) := by
  unfold endTick NotPulsing
  cases s.cuPh <;> simp

/-- The first part of a profile T tick: nothing, or one character accepted or discarded. -/
theorem readChar_cases (s : State) :
    (s.rxq = [] ∧ readChar s = s) ∨
    (∃ ch rest, s.rxq = ch :: rest ∧ readChar s = tAccept ch { s with rxq := rest }) := by
  cases h : s.rxq with
  | nil => exact .inl ⟨rfl, by simp [readChar, State.rxPeek, h]⟩
  | cons ch rest => exact .inr ⟨ch, rest, rfl, by simp [readChar, State.rxPeek, State.rxDrop, h]⟩

/-- CU inside a tick's roam step reads on, or decides and ends the tick (R210, R222). -/
theorem roamMove_cases (s : State) :
    (s.snapAt = 4 ∧ roamMove s = endTick { steerBy (readNext s).snap (readNext s) with inTick := false }) ∨
    (s.snapAt ≠ 4 ∧ roamMove s = { readNext s with inTick := true }) := by
  unfold roamMove
  rcases roamStep_cases s with ⟨h, e⟩ | ⟨h, e⟩ <;> rw [e]
  · exact .inl ⟨h, if_pos h⟩
  · exact .inr ⟨h, if_neg h⟩

/-- The second part of a profile T tick: a fire holds CU, a roam step begins with its first read, or the tick ends (R210). -/
theorem roamAndSleep_cases (s : State) :
    (s.cuPh = .firing ∧ roamAndSleep s = s) ∨
    (s.cuPh ≠ .firing ∧ s.mode = .roam ∧ roamAndSleep s = { s with
      snap := s.snap.set 0 s.lrt[0], snapAt := 1, inTick := true }) ∨
    (s.cuPh ≠ .firing ∧ s.mode = .manual ∧ roamAndSleep s = endTick s) := by
  unfold roamAndSleep
  by_cases h : s.cuPh = .firing
  · exact .inl ⟨h, if_pos h⟩
  · rw [if_neg h]
    cases hm : s.mode
    · exact .inr (.inr ⟨h, rfl, rfl⟩)
    · exact .inr (.inl ⟨h, rfl, rfl⟩)

/-- CU.TICK goes on with its roam step, takes a tick where CU is awake, and does nothing elsewhere. -/
theorem cuTick_cases (s : State) :
    (s.inTick = true ∧ cuTick s = roamMove s) ∨
    (s.inTick = false ∧ cuAwake s = true ∧ cuTick s = tickBody { s with cuPh := .ready }) ∨
    (s.inTick = false ∧ cuAwake s = false ∧ cuTick s = s) := by
  unfold cuTick
  cases s.inTick <;> cases cuAwake s <;> simp

end Sys2Proof.Machine
end

