-- ==== Sys2Proof/Laws/Decode.lean ====
section
/-!
SUPPORT. The fields of a frame word are the bytes it was joined from, and the byte order of `units` is undone by the encoder:
one lemma per field, and the two round trips the decoder's and the encoder's statements rest on.
-/
namespace Sys2Proof

/-! ### Layout A frame words (R91, R92) -/

@[simp] theorem faCmd_frameA (b0 b1 b2 : Byte) : faCmd (frameA b0 b1 b2) = b0 := by
  apply BitVec.eq_of_getLsbD_eq
  intro i hi
  simp only [faCmd, frameA, BitVec.getLsbD_extractLsb', BitVec.getLsbD_append]
  interval_cases i <;> simp

@[simp] theorem faParam_frameA (b0 b1 b2 : Byte) : faParam (frameA b0 b1 b2) = b1 := by
  apply BitVec.eq_of_getLsbD_eq
  intro i hi
  simp only [faParam, frameA, BitVec.getLsbD_extractLsb', BitVec.getLsbD_append]
  interval_cases i <;> simp

@[simp] theorem faTerm_frameA (b0 b1 b2 : Byte) : faTerm (frameA b0 b1 b2) = b2 := by
  apply BitVec.eq_of_getLsbD_eq
  intro i hi
  simp only [faTerm, frameA, BitVec.getLsbD_extractLsb', BitVec.getLsbD_append]
  interval_cases i <;> simp

/-! ### Layout B frame words (R91, R93) -/

@[simp] theorem fbCmd_frameB (b0 b1 b2 b3 : Byte) : fbCmd (frameB b0 b1 b2 b3) = b0 := by
  apply BitVec.eq_of_getLsbD_eq
  intro i hi
  simp only [fbCmd, frameB, BitVec.getLsbD_extractLsb', BitVec.getLsbD_append]
  interval_cases i <;> simp

@[simp] theorem fbU0_frameB (b0 b1 b2 b3 : Byte) : fbU0 (frameB b0 b1 b2 b3) = b1 := by
  apply BitVec.eq_of_getLsbD_eq
  intro i hi
  simp only [fbU0, frameB, BitVec.getLsbD_extractLsb', BitVec.getLsbD_append]
  interval_cases i <;> simp

@[simp] theorem fbU1_frameB (b0 b1 b2 b3 : Byte) : fbU1 (frameB b0 b1 b2 b3) = b2 := by
  apply BitVec.eq_of_getLsbD_eq
  intro i hi
  simp only [fbU1, frameB, BitVec.getLsbD_extractLsb', BitVec.getLsbD_append]
  interval_cases i <;> simp

@[simp] theorem fbTerm_frameB (b0 b1 b2 b3 : Byte) : fbTerm (frameB b0 b1 b2 b3) = b3 := by
  apply BitVec.eq_of_getLsbD_eq
  intro i hi
  simp only [fbTerm, frameB, BitVec.getLsbD_extractLsb', BitVec.getLsbD_append]
  interval_cases i <;> simp

/-! ### `units` (R73, R94) -/

/-- Assembling the two bytes the encoder makes of `units` gives `units` again, in either byte order. -/
@[simp] theorem assembleUnits_bytes (le : Bool) (u : Units16) :
    assembleUnits le (unitsByte0 le u) (unitsByte1 le u) = u := by
  cases le <;> apply BitVec.eq_of_getLsbD_eq <;> intro i hi <;>
    simp only [assembleUnits, unitsByte0, unitsByte1, Bool.false_eq_true, if_true, if_false, BitVec.getLsbD_extractLsb',
      BitVec.getLsbD_append] <;>
    split <;> simp_all <;> omega

/-- Taking assembled `units` apart gives frame byte 1 again. -/
@[simp] theorem unitsByte0_assemble (le : Bool) (u0 u1 : Byte) : unitsByte0 le (assembleUnits le u0 u1) = u0 := by
  cases le <;> apply BitVec.eq_of_getLsbD_eq <;> intro i hi <;>
    simp only [assembleUnits, unitsByte0, Bool.false_eq_true, if_true, if_false, BitVec.getLsbD_extractLsb',
      BitVec.getLsbD_append] <;>
    simp (disch := omega) [hi]

/-- Taking assembled `units` apart gives frame byte 2 again. -/
@[simp] theorem unitsByte1_assemble (le : Bool) (u0 u1 : Byte) : unitsByte1 le (assembleUnits le u0 u1) = u1 := by
  cases le <;> apply BitVec.eq_of_getLsbD_eq <;> intro i hi <;>
    simp only [assembleUnits, unitsByte1, Bool.false_eq_true, if_true, if_false, BitVec.getLsbD_extractLsb',
      BitVec.getLsbD_append] <;>
    simp (disch := omega) [hi]

end Sys2Proof
end

