-- ==== Sys2Proof/Laws/Motor.lean ====
section
/-!
SUPPORT. Everything the multi-stage motor operations can do, one case lemma each: later proofs cite the cases and do not unfold
the operation.
-/
namespace Sys2Proof.Machine

/-! ### The pulse generator (R159) -/

/-- PG_LOW as one update. -/
theorem pgLow_spec (s : State) (c : Channel) :
    pgLow c s = { s.setMotor c { s.motor c with step := false, pgPh := .low s.ts } with
      trace := s.trace ++ changed (.mStep c) (s.motor c).step false false } := by
  cases c <;> rfl

/-- PG_HIGH as one update. -/
theorem pgHigh_spec (s : State) (c : Channel) :
    pgHigh c s = { s.setMotor c { s.motor c with step := true, pgPh := .high, lastStepT := s.ts } with
      trace := s.trace ++ changed (.mStep c) (s.motor c).step true true } := by
  cases c <;> rfl

/-- One move of the pulse generator: a low half-step, a high half-step, or nothing, each with its condition. -/
theorem mdPgStep_cases (s : State) (c : Channel) :
    ((s.motor c).pgPh = .high ∧ pgLowEnabled s c = true ∧ mdPgStep c s = pgLow c s) ∨
    (∃ t0, (s.motor c).pgPh = .low t0 ∧ pgHighEnabled s c t0 = true ∧ mdPgStep c s = pgHigh c s) ∨
    (((s.motor c).pgPh = .high → pgLowEnabled s c = false) ∧
      (∀ t0, (s.motor c).pgPh = .low t0 → pgHighEnabled s c t0 = false) ∧ mdPgStep c s = s) := by
  unfold mdPgStep
  split
  · next h =>
    split
    · next e => exact .inl ⟨h, e, rfl⟩
    · next e => exact .inr (.inr ⟨fun _ => by simpa using e, fun t0 h' => by simp [h] at h', rfl⟩)
  · next t0 h =>
    split
    · next e => exact .inr (.inl ⟨t0, h, e, rfl⟩)
    · next e =>
      refine .inr (.inr ⟨fun h' => by simp [h] at h', fun t1 h' => ?_, rfl⟩)
      rw [h] at h'
      cases h'
      simpa using e

/-! ### MD.PULSE (R152) -/

/-- Outside a pulse, MD.PULSE begins one. -/
theorem mdPulse_begin {s : State} (h : NotPulsing s) (c : Channel) (dir : Bool) : mdPulse c dir s = s.pulseBegin c dir := by
  unfold mdPulse
  unfold NotPulsing at h
  cases hp : s.cuPh <;> simp_all

/-- Inside a pulse, MD.PULSE takes that pulse's next stage, whatever its own operands are. -/
theorem mdPulse_next {s : State} {c' : Channel} {stage : PulseStage} {t0 : Nat} (h : s.cuPh = .pulse c' stage t0)
    (c : Channel) (dir : Bool) : mdPulse c dir s = s.pulseNext c' stage t0 := by
  simp [mdPulse, h]

/-! ### The end of a fire (R158) -/

/-- MD.FIRE_END: the fire ends, or nothing happens, each with its condition. -/
theorem mdFireEnd_cases (s : State) :
    (fireEndEnabled s = true ∧ mdFireEnd s = { s with
      gun := false, fireBusy := false, cuPh := .sleep s.ts, trace := s.trace ++ changed .gun s.gun false false }) ∨
    (fireEndEnabled s = false ∧ mdFireEnd s = s) := by
  unfold mdFireEnd
  split
  · next h => exact .inl ⟨h, rfl⟩
  · next h => exact .inr ⟨by simpa using h, rfl⟩

end Sys2Proof.Machine
end

