-- ==== Sys2Proof/Laws/PerInstr.lean ====
section
/-!
SUPPORT. The statements made per operation. EncodeLength: an encoded operation's command unit has the `N_FRAME` bytes of its
profile (R90), and an operation that is not encoded has no bytes (R100).
-/
namespace Sys2Proof.Laws.EncodeLength

/-- The length of the operation's command unit. -/
def Statement (i : Instr) : Prop :=
  ∀ cfg, (encode cfg i).length = match i.profile with
    | some p => p.nFrame
    | none => 0

theorem laStop (p t : Byte) : Statement (.laStop p t) := fun _ => rfl
theorem laGun (p t : Byte) : Statement (.laGun p t) := fun _ => rfl
theorem laLeft (p t : Byte) : Statement (.laLeft p t) := fun _ => rfl
theorem laRight (p t : Byte) : Statement (.laRight p t) := fun _ => rfl
theorem laUnknown (cmd p t : Byte) : Statement (.laUnknown cmd p t) := fun _ => rfl
theorem laBadframe (cmd p t : Byte) : Statement (.laBadframe cmd p t) := fun _ => rfl
theorem lbBadframe (cmd : Byte) (units : Units16) (t : Byte) : Statement (.lbBadframe cmd units t) := fun _ => rfl
theorem lbStopall (units : Units16) : Statement (.lbStopall units) := fun _ => rfl
theorem lbGun (units : Units16) : Statement (.lbGun units) := fun _ => rfl
theorem lbSetl (units : Units16) : Statement (.lbSetl units) := fun _ => rfl
theorem lbSetr (units : Units16) : Statement (.lbSetr units) := fun _ => rfl
theorem lbUnknown (cmd : Byte) (units : Units16) : Statement (.lbUnknown cmd units) := fun _ => rfl
theorem tW : Statement .tW := fun _ => rfl
theorem tS : Statement .tS := fun _ => rfl
theorem tA : Statement .tA := fun _ => rfl
theorem tD : Statement .tD := fun _ => rfl
theorem tF : Statement .tF := fun _ => rfl
theorem tR : Statement .tR := fun _ => rfl
theorem tQ : Statement .tQ := fun _ => rfl
theorem tOther (ch : Byte) : Statement (.tOther ch) := fun _ => rfl
theorem sfFrame : Statement .sfFrame := fun _ => rfl
theorem dispatchA (f : FrameA) : Statement (.dispatchA f) := fun _ => rfl
theorem dispatchB (f : FrameB) : Statement (.dispatchB f) := fun _ => rfl
theorem ptTick : Statement .ptTick := fun _ => rfl
theorem ptSample (i : Us) : Statement (.ptSample i) := fun _ => rfl
theorem ptRise (i : Us) : Statement (.ptRise i) := fun _ => rfl
theorem ptFall (i : Us) : Statement (.ptFall i) := fun _ => rfl
theorem ptTrigall : Statement .ptTrigall := fun _ => rfl
theorem ptSnapshot : Statement .ptSnapshot := fun _ => rfl
theorem mdPulse (c : Channel) (dir : Bool) : Statement (.mdPulse c dir) := fun _ => rfl
theorem mdHold (c : Channel) : Statement (.mdHold c) := fun _ => rfl
theorem mdRun (c : Channel) (dir divsel : Bool) : Statement (.mdRun c dir divsel) := fun _ => rfl
theorem mdSetvel (c : Channel) (v : Int) : Statement (.mdSetvel c v) := fun _ => rfl
theorem mdStopall : Statement .mdStopall := fun _ => rfl
theorem mdFire : Statement .mdFire := fun _ => rfl
theorem mdFireEnd : Statement .mdFireEnd := fun _ => rfl
theorem mdPgStep (c : Channel) : Statement (.mdPgStep c) := fun _ => rfl
theorem mdGunset (level : Bool) : Statement (.mdGunset level) := fun _ => rfl
theorem rmDecide (r : Readings) : Statement (.rmDecide r) := fun _ => rfl
theorem cuTick : Statement .cuTick := fun _ => rfl
theorem tAccept (ch : Byte) : Statement (.tAccept ch) := fun _ => rfl
theorem cuRoamstep : Statement .cuRoamstep := fun _ => rfl
theorem applySteer (cmd : SteeringCommand) : Statement (.applySteer cmd) := fun _ => rfl
theorem envRxpush (b : Byte) : Statement (.envRxpush b) := fun _ => rfl
theorem envEcho (i : Us) (level : Bool) : Statement (.envEcho i level) := fun _ => rfl
theorem rst : Statement .rst := fun _ => rfl

end Sys2Proof.Laws.EncodeLength
end

