-- ==== Sys2Proof/Tests/Slice0.lean ====
section
/-!
SUPPORT. Tests, and the witnesses of the statements. A test's expected values are those of 95_test_vectors.md (the vector's id
stands in its comment) or are read off the rule it names. A witness is a concrete state and operands that meet the hypotheses
of the statement it is named after, one for each clause, at the clause's boundary where it has one.
-/
namespace Sys2Proof.Tests
open Sys2Proof Sys2Proof.Machine

/-! ## Concrete builds and states -/

/-- A build with every OPEN parameter at a number (the conventions of 95_test_vectors.md: `WALL_LIMIT = 600`),
its clock at 1 MHz. -/
def build (p : Profile) : Config :=
  { Config.default p with
    fClk := 1000000, tStepLow := 2, wallLimit := 600, basePeriod := 100, divPivot := 2, fireDuration := 50 }

/-- Input ports at rest, `RST = 0`. -/
def quiet : Ports := { Ports.inReset with rst := false }

/-- The block of profile `p` after reset at time 1000, CU's turn. -/
def still (p : Profile) : State :=
  { State.afterReset (build p) quiet 0 [] [] .cu with
    ts := 1000, fireT0 := 0, left := Motor.reset p.enReset 0, right := Motor.reset p.enReset 0, tickPhase := 0 }

abbrev sA : State := still .layoutA
abbrev sB : State := still .layoutB
abbrev sT : State := still .teleop

/-- Profile A with the terminator checked. -/
def sACheck : State := { sA with cfg := { sA.cfg with laCheckTerm := true } }

/-- The same state in the untimed model. -/
def untimed (s : State) : State := { s with cfg := { s.cfg with timing := .untimed } }

/-- Profile B with channel 0 running forward and mid-step (MD12), and the gun on. -/
def sBRunning : State :=
  { sB with
    left := { sB.left with en := true, dir := true, run := true, pgPh := .low 998, settleT := 900 }
    right := { sB.right with en := true, run := true }
    gun := true }

/-- Profile T with a fire begun at 950 (T16). -/
def sFiring : State :=
  { sT with gun := true, fireBusy := true, fireT0 := 950, cuPh := .firing, lastValid := true, lastChar := 0x66 }

/-- Profile T in Roam with Forward applied and the centre reading `r` (CU1, CU2). -/
def sRoam (r : Nat) : State := { sT with mode := .roam, steer := .forward, lrt := sT.lrt.set center r }

/-- `sRoam r` before the last of a snapshot's reads, the centre read as `r`: CU is inside its roam step. -/
def sRoamLast (r : Nat) : State := { sRoam r with cuPh := .ready, snap := sT.snap.set center r, snapAt := 4, inTick := true }

/-- Profile A inside an MD.PULSE on channel 0. -/
def sPulse (stage : PulseStage) (t0 : Nat) : State := { sA with cuPh := .pulse .left stage t0 }

/-- What `f` reads in the next state, if there is one. -/
def after {α : Type} (o : Out) (f : State → α) : Option α :=
  match o with
  | .next t => some (f t)
  | .fault _ => none
  | .refused _ => none

/-- Both `MOTOR` words. -/
def motors (s : State) : Byte × Byte := (s.left.packed, s.right.packed)

/-! ## WellFormed: each check refuses an ill-formed term -/

theorem test_wf_laStop_term : Instr.wf sACheck.cfg (.laStop 0x00 0x0B) = false := by decide
theorem test_wf_laGun_term : Instr.wf sACheck.cfg (.laGun 0x00 0x0B) = false := by decide
theorem test_wf_laLeft_term : Instr.wf sACheck.cfg (.laLeft 0x00 0x00) = false := by decide
theorem test_wf_laRight_term : Instr.wf sACheck.cfg (.laRight 0x00 0xFF) = false := by decide
theorem test_wf_laUnknown_cmd : Instr.wf sA.cfg (.laUnknown 0x03 0x00 0x0A) = false := by decide
theorem test_wf_laUnknown_term : Instr.wf sACheck.cfg (.laUnknown 0x04 0x00 0x0B) = false := by decide
theorem test_wf_laBadframe_term : Instr.wf sACheck.cfg (.laBadframe 0x02 0x00 0x0A) = false := by decide
theorem test_wf_laBadframe_unchecked : Instr.wf sA.cfg (.laBadframe 0x02 0x00 0x00) = false := by decide
theorem test_wf_lbBadframe_term : Instr.wf sB.cfg (.lbBadframe 0x01 0x0001 0x0A) = false := by decide
theorem test_wf_lbUnknown_cmd : Instr.wf sB.cfg (.lbUnknown 0x03 0x8000) = false := by decide
theorem test_wf_tOther_named : namedChars.all (fun ch => !Instr.wf sT.cfg (.tOther ch)) = true := by decide
theorem test_wf_setvel_low : Instr.wf sB.cfg (.mdSetvel .left (-32769)) = false := by decide
theorem test_wf_setvel_high : Instr.wf sB.cfg (.mdSetvel .left 32768) = false := by decide
theorem test_wf_rmDecide : Instr.wf sT.cfg (.rmDecide ⟨#[0, 0, 0, 0, 4294967296], rfl⟩) = false := by decide

/-! ## The build's constraints: each refuses a build (R8, R9, R203) -/

theorem test_build_rxDepth : ({ build .teleop with rxDepth := 3 } : Config).admitted = false := by decide
theorem test_build_nFrame : ({ build .layoutB with rxDepth := 3 } : Config).admitted = false := by decide
theorem test_build_divPivot : ({ build .layoutB with divPivot := 1 } : Config).admitted = false := by decide
theorem test_build_tSettle : ({ build .layoutA with tSettle := 4 } : Config).admitted = false := by decide
theorem test_build_tTrig : ({ build .layoutA with tTrig := 9 } : Config).admitted = false := by decide
theorem test_build_tsW : ({ build .teleop with tsW := 0 } : Config).admitted = false := by decide
theorem test_build_fClk : ({ build .teleop with fClk := 0 } : Config).admitted = false := by decide
theorem test_build_roamPolicy : ({ build .teleop with roamPolicy := .corrected } : Config).admitted = false := by decide
theorem test_build_default : (Config.default .layoutA).admitted = true := by decide

/-! ## Decoding: every encoded row from bytes written out by hand (R97, R98, R99) -/

-- LA5, LA6, LA1, LA4, LA7, LA10
theorem test_decode_laStop : decode sA.cfg [0x00, 0x55, 0x66] = .ok (.laStop 0x55 0x66, []) := by rfl
theorem test_decode_laGun : decode sA.cfg [0x01, 0x01, 0x0A] = .ok (.laGun 0x01 0x0A, []) := by rfl
theorem test_decode_laLeft : decode sA.cfg [0x02, 0x00, 0x00] = .ok (.laLeft 0x00 0x00, []) := by rfl
theorem test_decode_laRight : decode sA.cfg [0x03, 0x00, 0x33] = .ok (.laRight 0x00 0x33, []) := by rfl
theorem test_decode_laUnknown : decode sA.cfg [0x04, 0x00, 0x0A] = .ok (.laUnknown 0x04 0x00 0x0A, []) := by rfl
theorem test_decode_laBadframe : decode sACheck.cfg [0x02, 0x00, 0x00] = .ok (.laBadframe 0x02 0x00 0x00, []) := by rfl
-- LB6, LB1, LB4, LB9, LB12, LB15, and LB17 (the other byte order), LB16 (the terminator is tested first)
theorem test_decode_lbBadframe : decode sB.cfg [0x01, 0x01, 0x00, 0x0D] = .ok (.lbBadframe 0x01 0x0001 0x0D, []) := by rfl
theorem test_decode_lbStopall : decode sB.cfg [0x00, 0x12, 0x34, 0x0A] = .ok (.lbStopall 0x3412, []) := by rfl
theorem test_decode_lbGun : decode sB.cfg [0x01, 0x00, 0x01, 0x0A] = .ok (.lbGun 0x0100, []) := by rfl
theorem test_decode_lbSetl : decode sB.cfg [0x02, 0xFF, 0x7F, 0x0A] = .ok (.lbSetl 0x7FFF, []) := by rfl
theorem test_decode_lbSetr : decode sB.cfg [0x03, 0x05, 0x80, 0x0A] = .ok (.lbSetr 0x8005, []) := by rfl
theorem test_decode_lbUnknown : decode sB.cfg [0x04, 0x00, 0x80, 0x0A] = .ok (.lbUnknown 0x04 0x8000, []) := by rfl
theorem test_decode_bigEndian :
    decode { sB.cfg with unitsLE := false } [0x02, 0x80, 0x01, 0x0A] = .ok (.lbSetl 0x8001, []) := by rfl
theorem test_decode_terminatorFirst :
    decode sB.cfg [0x07, 0x00, 0x80, 0x0D] = .ok (.lbBadframe 0x07 0x8000 0x0D, []) := by rfl
-- the characters of R96, and T7
theorem test_decode_tW : decode sT.cfg [0x77] = .ok (.tW, []) := by rfl
theorem test_decode_tS : decode sT.cfg [0x73] = .ok (.tS, []) := by rfl
theorem test_decode_tA : decode sT.cfg [0x61] = .ok (.tA, []) := by rfl
theorem test_decode_tD : decode sT.cfg [0x64] = .ok (.tD, []) := by rfl
theorem test_decode_tF : decode sT.cfg [0x66] = .ok (.tF, []) := by rfl
theorem test_decode_tR : decode sT.cfg [0x72] = .ok (.tR, []) := by rfl
theorem test_decode_tQ : decode sT.cfg [0x71] = .ok (.tQ, []) := by rfl
theorem test_decode_tOther : decode sT.cfg [0x57] = .ok (.tOther 0x57, []) := by rfl
-- SF1, SF4: a short stream gives nothing, and the bytes after a frame stay
theorem test_decode_short : decode sB.cfg [0x02, 0x00, 0x80] = .error .insufficientData := by rfl
theorem test_decode_rest :
    decode sA.cfg [0x02, 0x00, 0x00, 0x03, 0x01, 0x0A] = .ok (.laLeft 0x00 0x00, [0x03, 0x01, 0x0A]) := by rfl
-- frame words with byte 0 in the most significant place (R91)
theorem test_table_layoutA : decodeTableWord 24 0x03000A = some (.laRight 0x00 0x0A) := by rfl
theorem test_table_layoutB : decodeTableWord 32 0x0205800A = some (.lbSetl 0x8005) := by rfl
theorem test_table_teleop : decodeTableWord 8 0x66 = some .tF := by rfl

/-! ## Meanings -/

-- LA5, LA6, LA7, LA10: only the result is recorded
theorem test_laStop : after (exec (.laStop 0x55 0x66) sA) (fun t => (motors t, t.lastResult, t.trace))
    = some ((0x01, 0x01), .stub, []) := by decide
theorem test_laGun : after (exec (.laGun 0x01 0x0A) sA) (fun t => (t.gun, t.lastResult, t.trace))
    = some (false, .stub, []) := by decide
theorem test_laUnknown : after (exec (.laUnknown 0x04 0x00 0x0A) sA) (fun t => (motors t, t.lastResult))
    = some ((0x01, 0x01), .unknownCommand) := by decide
theorem test_laBadframe : after (exec (.laBadframe 0x02 0x00 0x00) sACheck) (fun t => (motors t, t.lastResult))
    = some ((0x01, 0x01), .invalidFraming) := by decide
-- LA1 and LA2 up to the pulse's first wait; LA4
theorem test_laLeft : after (exec (.laLeft 0x00 0x00) sA) (fun t => (motors t, t.lastResult, t.trace))
    = some ((0x03, 0x01), .ok, [⟨.mDir .left, true⟩]) := by decide
theorem test_laLeft_low : after (exec (.laLeft 0x01 0x0A) sA) (fun t => (motors t, t.lastResult, t.trace))
    = some ((0x01, 0x01), .ok, []) := by decide
theorem test_laRight : after (exec (.laRight 0x00 0x33) sA) (fun t => (motors t, t.lastResult, t.trace))
    = some ((0x01, 0x03), .ok, [⟨.mDir .right, true⟩]) := by decide
-- LB14, LB2, LB5, LB8, LB10, LB12, LB15, LB6
theorem test_lbStopall : after (exec (.lbStopall 0x0000) sBRunning) (fun t => (motors t, t.gun, t.trace))
    = some ((0x02, 0x00), true, [⟨.mEn .left, false⟩, ⟨.mEn .right, false⟩]) := by decide
theorem test_lbGun : after (exec (.lbGun 0x0001) sB) (fun t => (t.gun, t.fireBusy, t.trace))
    = some (true, false, [⟨.gun, true⟩]) := by decide
theorem test_lbGun_units : after (exec (.lbGun 0x8001) sBRunning) (fun t => (t.gun, t.trace))
    = some (false, [⟨.gun, false⟩]) := by decide
theorem test_lbSetl : after (exec (.lbSetl 0x8001) sB) (fun t => (motors t, t.trace))
    = some ((0x0B, 0x00), [⟨.mEn .left, true⟩, ⟨.mDir .left, true⟩]) := by decide
theorem test_lbSetl_min : after (exec (.lbSetl 0x0000) sB) (fun t => (motors t, t.trace))
    = some ((0x09, 0x00), [⟨.mEn .left, true⟩]) := by decide
theorem test_lbSetr : after (exec (.lbSetr 0x8005) sB) (fun t => (motors t, t.lastResult))
    = some ((0x00, 0x0B), .ok) := by decide
theorem test_lbUnknown : after (exec (.lbUnknown 0x04 0x8000) sB) (fun t => (motors t, t.lastResult))
    = some ((0x00, 0x00), .unknownCommand) := by decide
theorem test_lbBadframe : after (exec (.lbBadframe 0x01 0x0001 0x0D) sB) (fun t => (t.gun, t.lastResult))
    = some (false, .invalidFraming) := by decide
-- T1 to T8, T16
theorem test_tW : after (exec .tW sT) (fun t => (motors t, t.steer)) = some ((0x09, 0x09), .reverse) := by decide
theorem test_tS : after (exec .tS sT) (fun t => (motors t, t.steer)) = some ((0x0B, 0x0B), .forward) := by decide
theorem test_tA : after (exec .tA sT) (fun t => (motors t, t.steer)) = some ((0x19, 0x1B), .left) := by decide
theorem test_tD : after (exec .tD sT) (fun t => (motors t, t.steer)) = some ((0x1B, 0x19), .right) := by decide
theorem test_tF : after (exec .tF sBRunning) (fun t => (motors t, t.actReg, t.cuPh))
    = some ((0x02, 0x00), 0x03, .firing) := by decide
theorem test_tF_reentrant : after (exec .tF sFiring) (fun t => (t.actReg, t.lastResult, t.trace))
    = some (0x03, .reentrant, []) := by decide
theorem test_tR : after (exec .tR sT) (fun t => (motors t, t.mode, t.steer)) = some ((0x00, 0x00), .roam, .none) := by decide
theorem test_tQ : after (exec .tQ sBRunning) (fun t => (motors t, t.steer)) = some ((0x02, 0x00), .stop) := by decide
theorem test_tOther : after (exec (.tOther 0x0A) sBRunning) (fun t => (motors t, t.steer, t.gun))
    = some ((0x02, 0x00), .stop, true) := by decide
-- SF1, SF5; LB16 and LA11 through the dispatchers
theorem test_sfFrame_short : after (exec .sfFrame { sB with rxq := [0x02, 0x00, 0x80] }) (fun t => (t.rxq, t.lastResult))
    = some ([0x02, 0x00, 0x80], .none) := by decide
theorem test_sfFrame_bad :
    after (exec .sfFrame { sB with rxq := [0xFF, 0x02, 0x00, 0x80, 0x0A] }) (fun t => (t.rxq, t.lastResult))
      = some ([0x0A], .invalidFraming) := by decide
theorem test_dispatchA : after (exec (.dispatchA 0x02000A) sACheck) (fun t => (motors t, t.lastResult))
    = some ((0x03, 0x01), .ok) := by decide
theorem test_dispatchB : after (exec (.dispatchB 0x0700800D) sB) (fun t => t.lastResult) = some .invalidFraming := by decide
-- PT1; PT2 and PT3; PT10; PT8's first event and its last; PT9
theorem test_ptTick : after (exec .ptTick { sB with ts := 0xFFFFFFFF }) (fun t => t.ts) = some 0 := by decide
-- another TS_W (R8, R9): the smallest one
theorem test_ptTick_narrow : after (exec .ptTick { sB with cfg := { sB.cfg with tsW := 1 }, ts := 1 }) (fun t => t.ts) = some 0 := by
  decide
theorem test_ptRise : after (exec (.ptRise 2) sB) (fun t => (t.letT[2], t.lrt[2])) = some (1000, 0) := by decide
theorem test_ptFall :
    after (exec (.ptFall 2) { sB with ts := 1580, letT := sB.letT.set 2 1000 }) (fun t => (t.letT[2], t.lrt[2]))
      = some (1000, 580) := by decide
theorem test_ptFall_wrap :
    after (exec (.ptFall 1) { sB with ts := 0x100, letT := sB.letT.set 1 0xFFFFFF00 }) (fun t => t.lrt[1])
      = some 0x200 := by decide
theorem test_ptSample_shift :
    after (exec (.ptSample 3) { sB with ports := { quiet with echo := sB.ports.echo.set 3 true } })
      (fun t => (t.sync1[3], t.sync2[3], t.letT[3])) = some (true, false, 0) := by decide
theorem test_ptSample_rise : after (exec (.ptSample 3) { sB with sync2 := sB.sync2.set 3 true })
    (fun t => (t.echoQ[3], t.letT[3])) = some (true, 1000) := by decide
theorem test_ptTrigall_first : after (exec .ptTrigall sB) (fun t => (t.tseq, t.trace))
    = some (.high 0 1000, [⟨.trig 0, true⟩]) := by decide
theorem test_ptTrigall_last :
    after (exec .ptTrigall { sB with tseq := .high 4 990, trig := sB.trig.set 4 true }) (fun t => (t.tseq, t.trace))
      = some (.sleep 1000, [⟨.trig 4, false⟩]) := by decide
-- R188's example; R281: a capture after the third read is seen by the reads of channels 3 and 4 only
theorem test_ptSnapshot :
    after (runOps (List.replicate 5 .ptSnapshot) { sB with lrt := ⟨#[10, 20, 30, 40, 50], rfl⟩ }) (fun t => t.ret)
      = some (some (.readings ⟨#[10, 20, 30, 40, 50], rfl⟩)) := by decide
theorem test_ptSnapshot_straddled :
    after (runOps [.ptSnapshot, .ptSnapshot, .ptSnapshot, .ptFall 1, .ptFall 4, .ptSnapshot, .ptSnapshot]
        { sB with lrt := ⟨#[10, 20, 30, 40, 50], rfl⟩ }) (fun t => t.ret)
      = some (some (.readings ⟨#[10, 20, 30, 40, 1000], rfl⟩)) := by decide
-- MD1 in its first and last stages, MD3, MD4, MD5, MD6, MD8, MD9, MD10, MD11, MD13, MD14
theorem test_mdPulse : after (exec (.mdPulse .left true) sB) (fun t => (t.left.packed, t.trace))
    = some (0x02, [⟨.mDir .left, true⟩]) := by decide
theorem test_mdPulse_rise : after (exec (.mdPulse .left true) (sPulse .low 998)) (fun t => (t.left.packed, t.trace))
    = some (0x05, [⟨.mStep .left, true⟩]) := by decide
theorem test_mdHold : after (exec (.mdHold .left) sBRunning) (fun t => (t.left.packed, t.trace))
    = some (0x02, [⟨.mEn .left, false⟩]) := by decide
theorem test_mdRun : after (exec (.mdRun .right false true) sB) (fun t => (motors t, t.trace))
    = some ((0x00, 0x19), [⟨.mEn .right, true⟩]) := by decide
theorem test_mdSetvel : after (exec (.mdSetvel .left (-7)) sB) (fun t => t.left.packed) = some 0x09 := by decide
theorem test_mdSetvel_zero : after (exec (.mdSetvel .left 0) sB) (fun t => (t.left.packed, t.trace)) = some (0x00, []) := by
  decide
theorem test_mdStopall_retracts :
    after (exec .mdStopall { sBRunning with cfg := { sB.cfg with stopallRetracts := true } }) (fun t => (t.gun, t.trace))
      = some (false, [⟨.mEn .left, false⟩, ⟨.mEn .right, false⟩, ⟨.gun, false⟩]) := by decide
theorem test_mdFire : after (exec .mdFire { sBRunning with gun := false }) (fun t => (motors t, t.actReg, t.trace))
    = some ((0x02, 0x00), 0x03, [⟨.mEn .left, false⟩, ⟨.mEn .right, false⟩, ⟨.gun, true⟩]) := by decide
theorem test_mdFireEnd : after (exec .mdFireEnd sFiring) (fun t => (t.actReg, t.cuPh, t.trace))
    = some (0x00, .sleep 1000, [⟨.gun, false⟩]) := by decide
theorem test_mdFireEnd_early : after (exec .mdFireEnd { sFiring with ts := 999 }) (fun t => (t.actReg, t.cuPh))
    = some (0x03, .firing) := by decide
theorem test_mdPgStep_high : after (exec (.mdPgStep .left) sBRunning) (fun t => (t.left.packed, t.left.pgPh, t.trace))
    = some (0x0F, .high, [⟨.mStep .left, true⟩]) := by decide
theorem test_mdPgStep_stopped :
    after (exec (.mdPgStep .left) { sB with left := { sB.left with dir := true, step := true } })
      (fun t => (t.left.packed, t.trace)) = some (0x06, []) := by decide
theorem test_mdGunset : after (exec (.mdGunset true) sBRunning) (fun t => (t.gun, t.trace)) = some (true, []) := by decide
-- RM3, RM1
theorem test_rmDecide : after (exec (.rmDecide ⟨#[9000, 9000, 580, 100, 100], rfl⟩) sT) (fun t => t.ret)
    = some (some (.steering .right)) := by decide
theorem test_rmDecide_limit : after (exec (.rmDecide ⟨#[0, 0, 600, 0, 0], rfl⟩) sT) (fun t => t.ret)
    = some (some (.steering .forward)) := by decide
-- T12 up to its first read, and with its last; T18; T9; CU2, CU1
theorem test_cuTick : after (exec .cuTick { sT with rxq := [0x72] }) (fun t => (motors t, t.ctrlReg, t.snapAt))
    = some ((0x00, 0x00), 0x723F, 1) := by decide
theorem test_cuTick_last : after (exec .cuTick { sRoamLast 0 with steer := .none }) (fun t => (motors t, t.steer, t.cuPh))
    = some ((0x1B, 0x19), .right, .sleep 1000) := by decide
theorem test_cuTick_firing : after (exec .cuTick { sFiring with rxq := [0x73] }) (fun t => (t.actReg, t.rxq))
    = some (0x03, [0x73]) := by decide
theorem test_tAccept : after (exec (.tAccept 0x77) { sT with lastValid := true, lastChar := 0x77 })
    (fun t => (motors t, t.lastResult)) = some ((0x00, 0x00), .debounced) := by decide
theorem test_tAccept_first : after (exec (.tAccept 0x00) sT) (fun t => (t.lastValid, t.steer, t.lastResult))
    = some (true, .stop, .ok) := by decide
theorem test_cuRoamstep : after (exec .cuRoamstep (sRoamLast 580)) (fun t => (motors t, t.steer, t.lastResult))
    = some ((0x1B, 0x19), .right, .none) := by decide
theorem test_cuRoamstep_same : after (exec .cuRoamstep (sRoamLast 2000)) (fun t => (motors t, t.trace))
    = some ((0x00, 0x00), []) := by decide
theorem test_applySteer : after (exec (.applySteer .left) sT) (fun t => (motors t, t.steer))
    = some ((0x19, 0x1B), .none) := by decide
-- RX1; R260; RS1
theorem test_envRxpush :
    after (exec (.envRxpush 0x05) { sB with cfg := { sB.cfg with rxDepth := 4 }, rxq := [0x01, 0x02, 0x03, 0x04] })
      (fun t => (t.rxq, t.rxOvf)) = some ([0x01, 0x02, 0x03, 0x04], true) := by decide
theorem test_envEcho : after (exec (.envEcho 1 true) sB) (fun t => (t.ports.echo[1], t.ports.echo[2], t.sync1[1]))
    = some (true, false, false) := by decide
theorem test_rst : after (exec .rst sFiring) (fun t => (motors t, t.actReg, t.ctrlReg, t.rxq, t.cuPh))
    = some ((0x00, 0x00), 0x00, 0x000E, [], .ready) := by decide
theorem test_rst_layoutA : after (exec .rst sA) (fun t => (motors t, t.portLevel (.mEn .left)))
    = some ((0x01, 0x01), true) := by decide

/-! ## The clock: a clock of 2 MHz completes a TICK every other time, one of 500 kHz two each time (R8, R249); release (R29) -/

theorem test_countTicks_fast :
    (countTicks { sB with cfg := { sB.cfg with fClk := 2000000 } }).ticksDue = 0 ∧
    (countTicks { sB with cfg := { sB.cfg with fClk := 2000000 }, tickPhase := 1000000 }).ticksDue = 1 := by decide
theorem test_countTicks_slow : (countTicks { sB with cfg := { sB.cfg with fClk := 500000 } }).ticksDue = 2 := by decide
theorem test_step_twoTicks :
    after (step { sB with slot := .tick, ticksDue := 2 }) (fun t => (t.ts, t.ticksDue, t.slot)) = some (1001, 1, .tick) := by
  decide
theorem test_release_keepsLevels :
    after (step { untimed sB with ports := { Ports.inReset with echo := sB.ports.echo.set 0 true }, schedule := [.sample 0] })
      (fun t => (t.sync1[0], t.echoQ[0], t.ports.rst)) = some (true, true, false) := by decide
-- R248: an echo edge among the first moves is captured; it is no more lost at the first `CLK` edge after them
theorem test_release_capturesEdge :
    after (Sys2Proof.core.run 6 { untimed sB with
        ports := Ports.inReset, slot := .edge, schedule := [.echo 0 true, .sample 0, .sample 0] })
      (fun t => (t.slot, t.echoQ[0], t.letT[0])) = some (.sample 1, true, 1000) := by decide

/-! ## The step runs a placed word first -/

theorem test_step_layoutA : after (step (State.reset.withFetchWord 24 0x020000)) (fun t => (t.left.dir, t.lastResult))
    = some (true, .ok) := by rfl
theorem test_step_layoutB : after (step (State.reset.withFetchWord 32 0x0101000A)) (fun t => (t.gun, t.lastResult))
    = some (true, .ok) := by rfl
theorem test_step_teleop : after (step (State.reset.withFetchWord 8 0x77)) (fun t => (motors t, t.steer))
    = some ((0x09, 0x09), .reverse) := by rfl

/-! ## Witnesses of the statements' hypotheses -/

theorem witness_DecodeInvertsEncode :
    (Instr.wf sACheck.cfg (.laUnknown 0x04 0xFF 0x0A) = true ∧ (Instr.laUnknown 0x04 0xFF 0x0A).profile = some sACheck.cfg.profile) ∧
    (Instr.wf sB.cfg (.lbSetl 0xFFFF) = true ∧ (Instr.lbSetl 0xFFFF).profile = some sB.cfg.profile) ∧
    (Instr.wf sT.cfg (.tOther 0x00) = true ∧ (Instr.tOther 0x00).profile = some sT.cfg.profile) := by decide

theorem witness_EveryFrameHasExactlyOneRow :
    [(0x02 : Byte), 0x00, 0x00].length = sA.cfg.profile.nFrame ∧ [(0x00 : Byte), 0x00, 0x00, 0x0A].length = sB.cfg.profile.nFrame ∧
    [(0xFF : Byte)].length = sT.cfg.profile.nFrame := by decide

-- both ends of the range of velocities
theorem witness_UnitsAndVelocityAreExact :
    (-32768 : Int) ≤ -32768 ∧ (-32768 : Int) ≤ 32767 ∧ (32767 : Int) ≤ 32767 ∧
    velocity 0x0000 = -32768 ∧ velocity 0x8000 = 0 ∧ velocity 0xFFFF = 32767 := by decide

-- one build for each constraint, at its boundary
theorem witness_BrokenBuildsAreRefused :
    ({ build .layoutB with rxDepth := 3 } : Config).rxDepth < (build .layoutB).profile.nFrame ∧
    ({ build .layoutB with divPivot := 1 } : Config).divPivot ≤ 1 ∧
    ({ build .layoutB with tSettle := 4 } : Config).tSettle < 5 ∧
    ({ build .layoutB with tTrig := 9 } : Config).tTrig < 10 ∧
    ({ build .layoutB with tsW := 0 } : Config).tsW < 1 ∧
    ({ build .layoutB with roamPolicy := .corrected } : Config).roamPolicy ≠ .parity := by decide

/-- A build that is admitted, one for each profile: the hypothesis of every statement about an operation. -/
theorem witness_Admitted : Admitted sA ∧ Admitted sB ∧ Admitted sT ∧ Admitted sACheck ∧ Admitted sBRunning ∧
    Admitted sFiring ∧ Admitted (sRoam 580) ∧ Admitted (untimed sT) ∧ Admitted (sPulse .settle 0) := by decide

-- the six branches: bad terminator, then `cmd` 0 to 3, then the first unknown one
theorem witness_DispatchASelectsByCommand : Admitted sACheck ∧
    (sACheck.cfg.laCheckTerm = true ∧ BitVec.ofNat 8 (0x02000B : FrameA).toNat ≠ 0x0A) ∧
    (List.range 5).map (fun n => BitVec.ofNat 8 ((BitVec.ofNat 24 (n * 65536 + 0x0A)).toNat / 65536))
      = [(0x00 : Byte), 0x01, 0x02, 0x03, 0x04] := by decide

theorem witness_DispatchBTestsTerminatorFirst : Admitted sB ∧
    BitVec.ofNat 8 (0x0201800B : FrameB).toNat ≠ 0x0A ∧
    (List.range 5).map (fun n => BitVec.ofNat 8 ((BitVec.ofNat 32 (n * 16777216 + 0x0A)).toNat / 16777216))
      = [(0x00 : Byte), 0x01, 0x02, 0x03, 0x04] := by decide

-- one byte short, and exactly a frame, in both framed profiles
theorem witness_FramerTakesOneFrameOrNothing :
    (Admitted sA ∧ sA.cfg.profile ≠ .teleop ∧ ({ sA with rxq := [0x02, 0x00] } : State).rxq.length < sA.cfg.profile.nFrame ∧
      sA.cfg.profile.nFrame ≤ ({ sA with rxq := [0x02, 0x00, 0x00] } : State).rxq.length) ∧
    (Admitted sB ∧ sB.cfg.profile ≠ .teleop ∧
      ({ sB with rxq := [0x02, 0x00, 0x80] } : State).rxq.length < sB.cfg.profile.nFrame ∧
      sB.cfg.profile.nFrame ≤ ({ sB with rxq := [0x02, 0x00, 0x80, 0x0A] } : State).rxq.length) := by decide

theorem witness_InvalidFramingConsumesAndRecords :
    (Admitted sB ∧ sB.cfg.profile = .layoutB ∧
      ({ sB with rxq := [0x02, 0x01, 0x80, 0x0B] } : State).rxq = [0x02, 0x01, 0x80, 0x0B] ∧ (0x0B : Byte) ≠ 0x0A) ∧
    (Admitted sACheck ∧ sACheck.cfg.profile = .layoutA ∧
      ({ sACheck with rxq := [0x02, 0x00, 0x00] } : State).rxq = [0x02, 0x00, 0x00] ∧ sACheck.cfg.laCheckTerm = true ∧
      (0x00 : Byte) ≠ 0x0A) ∧
    (Admitted sA ∧ sA.cfg.laCheckTerm = false) := by decide

-- `cmd` 4, the first one above the range, and 255
theorem witness_UnknownCommandConsumesAndRecords :
    (Admitted sB ∧ 4 ≤ (0x04 : Byte).toNat ∧ sB.cfg.profile = .layoutB ∧
      ({ sB with rxq := [0x04, 0x00, 0x80, 0x0A] } : State).rxq = [0x04, 0x00, 0x80, 0x0A]) ∧
    (Admitted sACheck ∧ 4 ≤ (0xFF : Byte).toNat ∧ sACheck.cfg.profile = .layoutA ∧
      ({ sACheck with rxq := [0xFF, 0x00, 0x0A] } : State).rxq = [0xFF, 0x00, 0x0A] ∧
      (sACheck.cfg.laCheckTerm = true → (0x0A : Byte) = 0x0A)) := by decide

-- both stubs
theorem witness_StubConsumesAndRecords :
    Admitted sA ∧ ((0x00 : Byte) = 0x00 ∨ (0x00 : Byte) = 0x01) ∧ ((0x01 : Byte) = 0x00 ∨ (0x01 : Byte) = 0x01) ∧
    sA.cfg.profile = .layoutA ∧ ({ sA with rxq := [0x01, 0x01, 0x55] } : State).rxq = [0x01, 0x01, 0x55] ∧
    (sA.cfg.laCheckTerm = true → (0x55 : Byte) = 0x0A) := by decide

theorem witness_RecordingRowsWriteOnlyTheResult : Admitted sA ∧ Admitted sB := by decide
theorem witness_LayoutAStepBeginsPulse : Admitted sA := by decide
-- the zero velocity, and the values next to it
theorem witness_LayoutBSetsChannelVelocity :
    Admitted sB ∧ (0x8000 : Units16) = 0x8000 ∧ (0x7FFF : Units16) ≠ 0x8000 ∧ (0x8001 : Units16) ≠ 0x8000 := by decide
theorem witness_GunCommandsSetALevel : Admitted sB := by decide
theorem witness_StopCommandsHoldBothChannels : Admitted sBRunning := by decide
theorem witness_HoldAndRunWriteOneChannel : Admitted sBRunning := by decide
theorem witness_SetVelocityUsesOnlyTheSign : Admitted sB ∧ (0 : Int) = 0 ∧ (0 : Int) < 1 ∧ (-1 : Int) < 0 := by decide

-- a wait one tick short of its end, and at its end, for both waits
theorem witness_PulseEmitsOneRisingEdge :
    (Admitted sA ∧ NotPulsing sA) ∧
    ({ sA with ts := 1004 } : State).passed sA.ts sA.cfg.tSettle = false ∧
    ({ sA with ts := 1005 } : State).passed sA.ts sA.cfg.tSettle = true ∧
    ({ sA with ts := 1006 } : State).passed 1005 sA.cfg.tStepLow = false ∧
    ({ sA with ts := 1007 } : State).passed 1005 sA.cfg.tStepLow = true := ⟨⟨by decide, trivial⟩, by decide⟩

theorem witness_FireStartsOnce : Admitted sT ∧ sT.fireBusy = false ∧ Admitted sFiring ∧ sFiring.fireBusy = true := by decide

-- exactly at the end of the fire, one tick before it, and with no fire
theorem witness_FireEndReleasesControl :
    Admitted sFiring ∧ sFiring.fireBusy = true ∧ sFiring.passed sFiring.fireT0 sFiring.cfg.fireDuration = true ∧
    ({ sFiring with ts := 999 } : State).passed sFiring.fireT0 sFiring.cfg.fireDuration = false ∧ sT.fireBusy = false := by decide

-- both phases, each with its condition met and not met
theorem witness_PulseGeneratorHalfSteps :
    Admitted sBRunning ∧ (sBRunning.motor .right).pgPh = .high ∧ (sBRunning.motor .right).run = true ∧
    sBRunning.passed (sBRunning.motor .right).settleT sBRunning.cfg.tSettle = true ∧
    sBRunning.passed (sBRunning.motor .right).lastStepT (sBRunning.cfg.basePeriod * 1) = true ∧
    (sB.motor .right).pgPh = .high ∧ (sB.motor .right).run = false ∧
    (sBRunning.motor .left).pgPh = .low 998 ∧ sBRunning.passed 998 sBRunning.cfg.tStepLow = true ∧
    sBRunning.passed (sBRunning.motor .left).settleT sBRunning.cfg.tSettle = true ∧
    ({ sBRunning with ts := 999 } : State).passed 998 sBRunning.cfg.tStepLow = false := by decide

-- MD12: the hold that comes while the step is low
theorem witness_StartedStepCompletes :
    (sBRunning.motor .left).pgPh = .low 998 ∧ (sBRunning.motor .left).step = false ∧
    ∃ t, exec (.mdHold .left) sBRunning = .next t ∧ t.passed 998 t.cfg.tStepLow = true ∧
      t.passed (t.motor .left).settleT t.cfg.tSettle = true := ⟨rfl, rfl, _, rfl, by decide, by decide⟩

theorem witness_TickCountsModulo : Admitted ({ sB with ts := 0xFFFFFFFF } : State) := by decide
theorem witness_CaptureWritesOwnRegister : Admitted sB ∧ (1 : Us) ≠ 0 := by decide
theorem witness_RoundTripIsExact :
    Admitted sB ∧ ({ sB with ts := 0xFFFFFFFF } : State).ts < 2 ^ sB.cfg.tsW := by decide
theorem witness_SampleShiftsAndCaptures :
    Admitted sB ∧ sB.sync2[3] = sB.echoQ[3] ∧
    (({ sB with sync2 := sB.sync2.set 3 true } : State).sync2[3] = true ∧ sB.echoQ[3] = false) ∧
    (sB.sync2[3] = false ∧ ({ sB with echoQ := sB.echoQ.set 3 true } : State).echoQ[3] = true) := by decide
-- a rise and a fall
theorem witness_EdgeCapturedAtThirdSample :
    Admitted sB ∧ sB.ts < 2 ^ sB.cfg.tsW ∧
    (sB.sync1[4] = !true ∧ sB.sync2[4] = !true ∧ sB.echoQ[4] = !true ∧
      ({ sB with ports := { quiet with echo := sB.ports.echo.set 4 true } } : State).ports.echo[4] = true) ∧
    let s : State := { sB with sync1 := sB.sync1.set 0 true, sync2 := sB.sync2.set 0 true, echoQ := sB.echoQ.set 0 true }
    s.sync1[0] = !false ∧ s.sync2[0] = !false ∧ s.echoQ[0] = !false ∧ s.ports.echo[0] = false := by decide

-- rest, a sleep and a pulse, each just over and not yet over, the last channel and the one before it
theorem witness_TriggerSequencerSteps :
    Admitted sB ∧ sB.tseq = .sleepOver ∧
    ({ sB with tseq := .sleep 1000, ts := 11000 } : State).passed 1000 sB.cfg.rangePeriod = true ∧
    ({ sB with tseq := .sleep 1000, ts := 10999 } : State).passed 1000 sB.cfg.rangePeriod = false ∧
    ({ sB with tseq := .high 3 990 } : State).passed 990 sB.cfg.tTrig = true ∧ (4 : Us).val = (3 : Us).val + 1 ∧
    ({ sB with tseq := .high 4 990, ts := 999 } : State).passed 990 sB.cfg.tTrig = false := by decide

theorem witness_RangingIterationPulsesInOrder :
    Admitted (untimed sB) ∧ (untimed sB).cfg.timing = .untimed ∧ (untimed sB).tseq = .sleepOver ∧
    TriggerMatchesSequencer (untimed sB) := ⟨by decide, rfl, rfl, rfl⟩

-- the first read, one before the last, and the last; a capture before all reads, between two, after all of them
theorem witness_SnapshotReturnsReadings :
    Admitted sB ∧ sB.snapAt = 0 ∧ sB.snapAt ≠ 4 ∧ ({ sB with snapAt := 3 } : State).snapAt ≠ 4 ∧ (sRoamLast 0).snapAt = 4 ∧
    (0 ≤ 5 ∧ 3 ≤ 5 ∧ 5 ≤ 5) ∧ (1 : Us) ≠ 4 := by decide
theorem witness_CaptureRegistersHaveOneWriter :
    (∃ t, exec (.ptRise 2) sB = .next t ∧ t.letT[2] ≠ sB.letT[2]) ∧ ∃ t, exec (.ptFall 2) sB = .next t ∧ t.lrt[2] ≠ sB.lrt[2] :=
  ⟨⟨_, rfl, by decide⟩, _, rfl, by decide⟩
-- the limit and the reading below it
theorem witness_DecideComparesOnlyTheCentre : Admitted sT ∧ 599 < sT.cfg.wallLimit ∧
    ¬600 < sT.cfg.wallLimit := by decide
theorem witness_SideReadingsNeverMatter :
    Admitted (sRoamLast 580) ∧ (⟨#[7, 7, 580, 7, 7], rfl⟩ : Readings)[center] = (sRoamLast 580).lrt[center] ∧
    (⟨#[8, 8, 580, 8, 8], rfl⟩ : Readings)[center] = (sRoamLast 580).snap[center] := by decide

theorem witness_MotionCharactersRunBothChannels : Admitted sT := by decide
theorem witness_FireAndRoamCharacters : Admitted sT ∧ sT.fireBusy = false ∧ sFiring.fireBusy = true := by decide
-- a repeat, a first character and a different one
theorem witness_AcceptDebouncesThenDispatches :
    (Admitted sFiring ∧ sFiring.lastValid = true ∧ (0x66 : Byte) = sFiring.lastChar) ∧
    (Admitted sT ∧ sT.lastValid = false) ∧ (0x73 : Byte) ≠ sFiring.lastChar := by decide
theorem witness_RepeatIsDebouncedUnlessInterrupted : Admitted sT ∧ (0x71 : Byte) ≠ 0x73 ∧ sT.lastValid = false := by decide

-- ready, inside a roam step at its last read and before it, and a sleep that is just over; both kinds of profile; a character that fires, Manual and Roam
theorem witness_ControlTickFollowsItsRule :
    (Admitted sB ∧ sB.inTick = false ∧ sB.cuPh = .ready ∧ sB.cfg.profile ≠ .teleop) ∧
    (Admitted (sRoamLast 580) ∧ (sRoamLast 580).inTick = true ∧ (sRoamLast 580).cuPh = .ready ∧ (sRoamLast 580).snapAt = 4 ∧
      ({ sRoamLast 580 with snapAt := 3 } : State).snapAt ≠ 4) ∧
    (Admitted sT ∧ ({ sT with cuPh := .sleep 1000, ts := 101000 } : State).passed 1000 sT.cfg.ctrlPeriod = true) ∧
    (sT.cfg.profile = .teleop ∧ sT.rxq = [] ∧ ({ sT with rxq := [0x66] } : State).rxq = 0x66 :: []) ∧
    after (exec (.tAccept 0x66) sT) (fun t => decide (t.cuPh = .firing)) = some true ∧
    after (exec (.tAccept 0x73) sT) (fun t => decide (t.cuPh ≠ .firing ∧ t.mode = .manual)) = some true ∧
    after (exec (.tAccept 0x72) sT) (fun t => decide (t.cuPh ≠ .firing ∧ t.mode = .roam)) = some true := by decide

theorem witness_BusyControlUnitTakesNoTick :
    (Admitted sFiring ∧ sFiring.inTick = false ∧ sFiring.cuPh = .firing) ∧ (sPulse .low 998).cuPh = .pulse .left .low 998 ∧
    ({ sT with cuPh := .sleep 1000, ts := 100999 } : State).passed 1000 sT.cfg.ctrlPeriod = false := by decide

-- a read before the last, and the last with the reading at the limit and below it, with STEER differing and agreeing
theorem witness_RoamStepAppliesOnlyChanges :
    (Admitted (sRoam 599) ∧ (sRoam 599).snapAt ≠ 4) ∧
    Admitted (sRoamLast 599) ∧ (sRoamLast 599).snapAt = 4 ∧
    (sRoamLast 599).snap[center] < (sRoamLast 599).cfg.wallLimit ∧ (sRoamLast 599).steer ≠ .right ∧
    ({ sRoamLast 599 with steer := .right } : State).steer = .right ∧
    (sRoamLast 600).cfg.wallLimit ≤ (sRoamLast 600).snap[center] ∧ (sRoamLast 600).steer = .forward ∧
    ({ sRoamLast 600 with steer := .none } : State).steer ≠ .forward := by decide

theorem witness_SteeringActuationMap : Admitted sT := by decide
-- the first roam step, and, with Right applied, the step that makes a later one's last read
theorem witness_ObstacleAppliesRightExactlyOnce :
    (Admitted (sRoam 580) ∧ (sRoam 580).mode = .roam ∧ (sRoam 580).steer = .forward ∧ (sRoam 580).snapAt = 0 ∧
      (sRoam 580).lrt[center] < (sRoam 580).cfg.wallLimit) ∧
    let s : State := { sRoamLast 580 with steer := .right }
    s.mode = .roam ∧ s.steer = .right ∧ s.lrt[center] < s.cfg.wallLimit ∧ (2 < s.snapAt.val ∧ s.snap[center] < s.cfg.wallLimit) ∧
    after (step s) (fun t => decide (t.draws = s.draws ∧ t.rxq = s.rxq ++ [])) = some true := by decide

-- one place left, and none
theorem witness_PushAppendsOrOverflows :
    Admitted ({ sB with cfg := { sB.cfg with rxDepth := 4 } } : State) ∧
    ({ sB with rxq := [0x01, 0x02, 0x03] } : State).rxq.length < 4 ∧
    4 ≤ ({ sB with rxq := [0x01, 0x02, 0x03, 0x04] } : State).rxq.length := by decide
theorem witness_EchoChangesOnlyItsLine : Admitted sB ∧ (0 : Us) ≠ 4 := by decide
theorem witness_ResetLeavesTableValues : Admitted sFiring := by decide

-- the clock in reset, the first after it, and a later one
theorem witness_ResetClockDoesNothingElse :
    Admitted sB ∧ ({ sB with slot := .edge } : State).slot = .edge ∧ sB.inTick = false ∧ sB.cfg.timing = .timed ∧
    ({ sB with inputs := [Ports.inReset] } : State).inputs = Ports.inReset :: [] ∧ Ports.inReset.rst = true ∧
    ({ sB with ports := Ports.inReset, inputs := [quiet] } : State).inputs = quiet :: [] ∧ quiet.rst = false ∧
    ({ sB with ports := Ports.inReset } : State).ports.rst = true ∧ sB.ports.rst = false := by decide

theorem witness_StepRunsDecodedFrame :
    Admitted sB ∧ sB.slot = .cu ∧ sB.cuPh = .ready ∧ sB.inTick = false ∧ (sB.cfg.timing = .timed ∨ sB.schedule = []) ∧
    sB.cfg.profile ≠ .teleop ∧
    decode sB.cfg ({ sB with rxq := [0x02, 0x01, 0x80, 0x0A, 0x03] } : State).rxq = .ok (.lbSetl 0x8001, [0x03]) :=
  ⟨by decide, rfl, rfl, rfl, by decide, by decide, rfl⟩
theorem witness_StepRunsDecodedCharacter :
    Admitted sT ∧ sT.slot = .cu ∧ sT.cuPh = .ready ∧ sT.inTick = false ∧ (sT.cfg.timing = .timed ∨ sT.schedule = []) ∧
    sT.cfg.profile = .teleop ∧ ({ sT with rxq := [0x77] } : State).rxq = 0x77 :: [] ∧
    (sT.lastValid = false ∨ (0x77 : Byte) ≠ sT.lastChar) ∧
    decode sT.cfg ({ sT with rxq := [0x77] } : State).rxq = .ok (.tW, []) :=
  ⟨by decide, rfl, rfl, rfl, by decide, rfl, rfl, by decide, rfl⟩
-- each move of a schedule; CU inside its roam step; each place, with a byte and without, with no `TICK` due, one and two
theorem witness_EachTurnIsOneMove :
    (Admitted (untimed sA) ∧ (untimed sA).cfg.timing = .untimed ∧ NotPulsing (untimed sA) ∧
      (untimed (sPulse .low 998)).cuPh = .pulse .left .low 998 ∧
      ∀ m : Move, ({ untimed sA with schedule := [m] } : State).schedule = m :: []) ∧
    (Admitted (sRoamLast 580) ∧ (sRoamLast 580).cfg.timing = .timed ∧ (sRoamLast 580).inTick = true) ∧
    (Admitted sA ∧ sA.cfg.timing = .timed ∧ sA.inTick = false ∧ NotPulsing sA ∧ (3 : Us) ≠ 4 ∧
      (sPulse .settle 0).cuPh = .pulse .left .settle 0 ∧ (sPulse .settle 0).inTick = false ∧
      quiet.rxValid = false ∧ ({ quiet with rxValid := true } : Ports).rxValid = true ∧
      sA.ticksDue = 0 ∧ ({ sA with ticksDue := 1 } : State).ticksDue = 1 ∧ 2 ≤ ({ sA with ticksDue := 2 } : State).ticksDue ∧
      ∀ place : Slot, ({ sA with slot := place } : State).slot = place) :=
  ⟨⟨by decide, rfl, trivial, rfl, fun _ => rfl⟩, ⟨by decide, rfl, rfl⟩, by decide, rfl, rfl, trivial, by decide, rfl, rfl, rfl,
    rfl, rfl, rfl, Nat.le_refl _, fun _ => rfl⟩

/-! ### Invariants -/

/-- A state right after reset, in every profile, meets the invariant. -/
theorem still_invariant (p : Profile) : BlockInvariant (still p) := by
  constructor
  · exact Nat.zero_le _
  · rfl
  · intro c; cases c <;> exact ⟨fun h => Bool.noConfusion h, fun h => absurd rfl h⟩
  · intro _; exact ⟨rfl, rfl, rfl, rfl, rfl⟩
  · exact ⟨⟨fun h => CuPhase.noConfusion h, fun h => Bool.noConfusion h⟩, fun h => Bool.noConfusion h⟩
  · exact ⟨fun _ c => by cases c <;> exact ⟨rfl, rfl⟩, fun c stage t0 h => CuPhase.noConfusion h⟩
  · constructor
    · cases p <;> decide
    · intro i; revert i; cases p <;> decide
    · intro i; revert i; cases p <;> decide
    · intro i; revert i; cases p <;> decide
    · cases p <;> decide
    · intro c; cases p <;> cases c <;> decide
    · intro c; cases p <;> cases c <;> decide
    · intro c t0 h; cases c <;> exact PgPhase.noConfusion h
    · intro t0 h; exact TSeq.noConfusion h
    · intro k t0 h; exact TSeq.noConfusion h
    · intro t0 h; exact CuPhase.noConfusion h
    · intro c stage t0 h; exact CuPhase.noConfusion h
  · exact ⟨⟨fun h => Bool.noConfusion h, fun h => absurd rfl h⟩, fun h => Bool.noConfusion h⟩

theorem witness_StepKeepsInvariant : BlockInvariant sB ∧ ∃ t, step sB = .next t := ⟨still_invariant _, _, rfl⟩
theorem witness_StepKeepsTraceExact : TraceExact sA ∧ ∃ t, step sA = .next t :=
  ⟨⟨trivial, fun p => by cases p with
    | trig i => revert i; decide
    | mEn c => cases c <;> rfl
    | mDir c => cases c <;> rfl
    | mStep c => cases c <;> rfl
    | gun => rfl⟩, _, rfl⟩
theorem witness_ResetIsSafe : ∃ t, exec .rst sFiring = .next t := ⟨_, rfl⟩
theorem witness_NoStepEverStops : Admitted sFiring := by decide
-- a step that is no reset, and one that is
theorem witness_FramedProfilesNeverRoam :
    (sB.cfg.profile ≠ .teleop ∧ SnapshotConsistent sB ∧ after (step sB) (fun t => decide (t.draws = sB.draws)) = some true) ∧
    let s : State := { untimed sB with schedule := [.reset] }
    s.cfg.profile ≠ .teleop ∧ SnapshotConsistent s ∧ after (step s) (fun t => decide (t.draws ≠ s.draws)) = some true :=
  ⟨⟨by decide, (still_invariant _).snapshot, by decide⟩, by decide, (still_invariant .layoutB).snapshot, by decide⟩
theorem witness_OnlyControlUnitDrivesActuators : ∃ t, exec (.mdPgStep .left) sBRunning = .next t := ⟨_, rfl⟩
/-- A fire in progress meets the invariant. -/
theorem firing_invariant : BlockInvariant (untimed sFiring) := by
  obtain ⟨fifo, trigger, channels, framed, -, -, times, -⟩ := still_invariant .teleop
  constructor
  · exact fifo
  · exact trigger
  · exact channels
  · intro h; exact absurd rfl h
  · exact ⟨⟨fun _ => rfl, fun _ => rfl⟩, fun _ => ⟨rfl, fun c => by cases c <;> exact ⟨rfl, rfl⟩⟩⟩
  · exact ⟨fun h => Profile.noConfusion h, fun c stage t0 h => CuPhase.noConfusion h⟩
  · exact { times with
      fireT0 := by decide
      cuSleep := fun t0 h => CuPhase.noConfusion h
      cuPulse := fun c stage t0 h => CuPhase.noConfusion h }
  · exact ⟨⟨fun h => Bool.noConfusion h, fun h => absurd rfl h⟩, fun h => Bool.noConfusion h⟩

theorem witness_FireBlocksControl :
    FiringConsistent sFiring ∧ SnapshotConsistent sFiring ∧ sFiring.cuPh = .firing ∧
    ∃ t, step sFiring = .next t ∧ t.fireBusy = true :=
  ⟨firing_invariant.firing, firing_invariant.snapshot, rfl, _, rfl, rfl⟩
theorem witness_UntimedFireEnds :
    Admitted (untimed sFiring) ∧ BlockInvariant (untimed sFiring) ∧ (untimed sFiring).cfg.timing = .untimed ∧
    (untimed sFiring).schedule = [] ∧ (untimed sFiring).inputs = [] ∧ (untimed sFiring).fireBusy = true :=
  ⟨by decide, firing_invariant, rfl, rfl, rfl, rfl⟩
-- both models of time; a wait across the wrap, one tick short of its end and at it
theorem witness_WaitComparesModularDifference :
    sB.cfg.timing = .timed ∧ (untimed sB).cfg.timing = .untimed ∧
    ({ sB with ts := 3 } : State).passed 0xFFFFFFFE 5 = true ∧ ({ sB with ts := 2 } : State).passed 0xFFFFFFFE 5 = false := by
  decide

end Sys2Proof.Tests
end

/-! ## The build: a broken one is refused (R9, R203) -/

namespace Sys2Proof.Machine

/-- Every operation answers through the build check. -/
theorem exec_eq_onBuild (i : Instr) (s : State) : ∃ k, exec i s = onBuild s k := by
  cases i <;> exact ⟨_, rfl⟩

theorem onBuild_refused {s : State} (h : s.cfg.admitted = false) (k : Out) :
    onBuild s k = .refused .configNotAdmitted := by
  simp [onBuild, h]

theorem admitted_iff (c : Config) : c.admitted = true ↔
    4 ≤ c.rxDepth ∧ c.profile.nFrame ≤ c.rxDepth ∧ divFull < c.divPivot ∧ 5 ≤ c.tSettle ∧ 10 ≤ c.tTrig ∧ 1 ≤ c.tsW ∧
      0 < c.fClk ∧ c.roamPolicy = .parity := by
  simp [Config.admitted, and_assoc]

/-- Settles O5: each broken constraint contradicts its part of `admitted_iff`, and every operation and `step` answer through
`onBuild`. -/
theorem brokenBuildsAreRefused : Obligations.BrokenBuildsAreRefused := by
  intro s hbroken
  have hbuild : s.cfg.admitted = false := by
    rw [← Bool.not_eq_true, admitted_iff]
    rintro ⟨-, hdepth, hpivot, hsettle, htrig, hwidth, -, hpolicy⟩
    rcases hbroken with h | h | h | h | h | h
    · omega
    · exact absurd hpivot (not_lt.mpr h)
    · omega
    · omega
    · omega
    · exact h hpolicy
  refine ⟨fun i => ?_, onBuild_refused hbuild _⟩
  obtain ⟨k, hk⟩ := exec_eq_onBuild i s
  rw [hk, onBuild_refused hbuild]

end Sys2Proof.Machine

/-! ## What the dispatchers and CU's move can do, once each -/

namespace Sys2Proof.Machine

/-- A Layout A frame records a result, or records OK and begins a pulse (R122, R127 to R132). -/
theorem dispatchA_cases (f : FrameA) (s : State) :
    (∃ r, dispatchA f s = s.raise r) ∨ ∃ c dir, dispatchA f s = (s.raise .ok).pulseBegin c dir := by
  unfold dispatchA
  simp only []
  split_ifs
  · exact .inl ⟨_, rfl⟩
  · exact .inl ⟨_, rfl⟩
  · exact .inl ⟨_, rfl⟩
  · exact .inr ⟨.left, _, rfl⟩
  · exact .inr ⟨.right, _, rfl⟩
  · exact .inl ⟨_, rfl⟩

/-- A Layout B frame records a result, or records OK and stops both channels, sets the gun or sets a channel's velocity (R123,
R133 to R138). -/
theorem dispatchB_cases (f : FrameB) (s : State) :
    (∃ r, dispatchB f s = s.raise r) ∨ dispatchB f s = (s.raise .ok).stopAll ∨
      (∃ v, dispatchB f s = (s.raise .ok).setGun v) ∨ ∃ c v, dispatchB f s = (s.raise .ok).setVel c v := by
  unfold dispatchB
  simp only []
  split_ifs
  · exact .inl ⟨_, rfl⟩
  · exact .inr (.inl rfl)
  · exact .inr (.inr (.inl ⟨_, rfl⟩))
  · exact .inr (.inr (.inr ⟨.left, _, rfl⟩))
  · exact .inr (.inr (.inr ⟨.right, _, rfl⟩))
  · exact .inl ⟨_, rfl⟩

/-- A framer step takes nothing, or drops one frame of the build's layout and dispatches it (R120). -/
theorem sfFrame_cases (s : State) :
    sfFrame s = s ∨ (s.cfg.profile = .layoutA ∧ ∃ f, sfFrame s = dispatchA f (s.rxDrop 3)) ∨
      (s.cfg.profile = .layoutB ∧ ∃ f, sfFrame s = dispatchB f (s.rxDrop 4)) := by
  unfold sfFrame
  split
  · next hp =>
    split
    · exact .inr (.inl ⟨hp, _, rfl⟩)
    · exact .inl rfl
  · next hp =>
    split
    · exact .inr (.inr ⟨hp, _, rfl⟩)
    · exact .inl rfl
  · exact .inl rfl

/-- A character records OK and drives both channels, begins a fire, enters Roam or stops; or it is `f` during a fire (R214 to
R221). -/
theorem dispatchT_cases (ch : Byte) (s : State) :
    (∃ st dl dr dv, dispatchT ch s = { s.raise .ok with steer := st }.runBoth dl dr dv) ∨
    (s.fireBusy = true ∧ dispatchT ch s = s.raise .reentrant) ∨
    (s.fireBusy = false ∧ dispatchT ch s = (s.raise .ok).fire) ∨
    dispatchT ch s = { s.raise .ok with mode := .roam, steer := .none } ∨
    dispatchT ch s = { s.raise .ok with steer := .stop }.stopAll := by
  unfold dispatchT
  split_ifs
  · exact .inl ⟨_, _, _, _, rfl⟩
  · exact .inl ⟨_, _, _, _, rfl⟩
  · exact .inl ⟨_, _, _, _, rfl⟩
  · exact .inl ⟨_, _, _, _, rfl⟩
  · cases hb : s.fireBusy
    · exact .inr (.inr (.inl ⟨rfl, by simp [tF, hb]⟩))
    · exact .inr (.inl ⟨rfl, by simp [tF, hb]⟩)
  · exact .inr (.inr (.inr (.inl rfl)))
  · exact .inr (.inr (.inr (.inr rfl)))
  · exact .inr (.inr (.inr (.inr rfl)))

/-- What CU does when it moves: a control tick, or the next stage of the pulse it is in (R250). -/
theorem cuInstr_cases (s : State) :
    cuInstr s = .cuTick ∨ ∃ c stage t0 dir, s.cuPh = .pulse c stage t0 ∧ cuInstr s = .mdPulse c dir := by
  unfold cuInstr
  split
  · next c stage t0 hph => exact .inr ⟨c, stage, t0, _, hph, rfl⟩
  · exact .inl rfl
  · exact .inl rfl
  · exact .inl rfl

/-- RM's decision does not read whether a roam step is in progress. -/
theorem steerBy_setInTick (r : Readings) (s : State) (b : Bool) :
    { steerBy r s with inTick := b } = steerBy r { s with inTick := b } := by
  unfold steerBy
  dsimp only
  split_ifs
  · rfl
  · rw [applySteer_spec, applySteer_spec]
    cases rmDecide s.cfg r <;> rfl

/-! ### No command writes `inTick` -/

theorem dispatchA_inTick (f : FrameA) (s : State) : (dispatchA f s).inTick = s.inTick := by
  rcases dispatchA_cases f s with ⟨r, e⟩ | ⟨c, dir, e⟩
  · rw [e, State.raise_inTick]
  · simp [e, pulseBegin_spec]

theorem dispatchB_inTick (f : FrameB) (s : State) : (dispatchB f s).inTick = s.inTick := by
  rcases dispatchB_cases f s with ⟨r, e⟩ | e | ⟨v, e⟩ | ⟨c, v, e⟩
  · rw [e, State.raise_inTick]
  · simp [e, stopAll_spec, stoppedAll]
  · rw [e, State.setGun_inTick, State.raise_inTick]
  · rw [e, setVel_spec]
    split_ifs <;> simp [hold_spec, run_spec]

theorem sfFrame_inTick (s : State) : (sfFrame s).inTick = s.inTick := by
  rcases sfFrame_cases s with e | ⟨-, f, e⟩ | ⟨-, f, e⟩
  · rw [e]
  · rw [e, dispatchA_inTick, State.rxDrop_inTick]
  · rw [e, dispatchB_inTick, State.rxDrop_inTick]

theorem dispatchT_inTick (ch : Byte) (s : State) : (dispatchT ch s).inTick = s.inTick := by
  rcases dispatchT_cases ch s with ⟨st, dl, dr, dv, e⟩ | ⟨-, e⟩ | ⟨-, e⟩ | e | e
  · simp [e, runBoth_spec, runningBoth]
  · rw [e, State.raise_inTick]
  · simp [e, fire_spec]
  · simp [e]
  · simp [e, stopAll_spec, stoppedAll]

theorem tAccept_inTick (ch : Byte) (s : State) : (tAccept ch s).inTick = s.inTick := by
  rcases tAccept_cases ch s with ⟨-, e⟩ | ⟨-, e⟩
  · rw [e, State.raise_inTick]
  · rw [e, dispatchT_inTick]
    rfl

end Sys2Proof.Machine

/-! ## The invariant under updates of the state

One lemma for each group of registers that an operation may write: the fields the invariant does not read, the motor channels,
CU's phase, a read of a snapshot. -/

namespace Sys2Proof.Machine

/-- `t` differs from `s` only in fields the invariant does not read. -/
def SameInvariantFields (s t : State) : Prop :=
  t = { s with
    ports := t.ports, echoQ := t.echoQ, sync1 := t.sync1, sync2 := t.sync2, lastResult := t.lastResult, rxOvf := t.rxOvf
    trace := t.trace, ret := t.ret, ticksDue := t.ticksDue, tickPhase := t.tickPhase, draws := t.draws, inputs := t.inputs
    schedule := t.schedule, slot := t.slot }

theorem invariant_sameFields {s t : State} (h : BlockInvariant s) (hst : SameInvariantFields s t) : BlockInvariant t := by
  rw [hst]
  exact { h with times := { h.times with } }

theorem SameBlock.invariant {s r : State} (hr : SameBlock s r) (h : BlockInvariant s) : BlockInvariant r :=
  invariant_sameFields h (by rw [hr]; rfl)

theorem raise_invariant {s : State} (h : BlockInvariant s) (r : Result) : BlockInvariant (s.raise r) :=
  invariant_sameFields h rfl

theorem atEdge_invariant {s : State} (h : BlockInvariant s) : BlockInvariant (atEdge s) :=
  invariant_sameFields h rfl

theorem loadSync_invariant {s : State} (h : BlockInvariant s) : BlockInvariant s.loadSync :=
  invariant_sameFields h rfl

/-- The start of a clock: its `TICK`s are counted and the next place is `RX`. -/
theorem countTicks_invariant {s : State} (h : BlockInvariant s) : BlockInvariant { countTicks s with slot := .rx } :=
  invariant_sameFields h (by rw [countTicks_spec]; rfl)

theorem rxPush_invariant {s : State} (h : BlockInvariant s) (b : Byte) : BlockInvariant (s.rxPush b) := by
  have hfifo := rxPush_bounded h.fifo b
  obtain ⟨-, e⟩ | ⟨-, e⟩ := rxPush_spec s b <;> rw [e] at hfifo ⊢ <;>
    exact { h with fifo := hfifo, times := { h.times with } }

theorem rxDrop_invariant {s : State} (h : BlockInvariant s) (n : Nat) : BlockInvariant (s.rxDrop n) :=
  { h with fifo := rxDrop_bounded h.fifo n, times := { h.times with } }

/-! ### Motor channels -/

/-- `m` is a value the invariant admits on channel `c` in state `s`. -/
structure MotorFits (s : State) (c : Channel) (m : Motor) : Prop where
  consistent : ChannelConsistent m
  heldByFire : s.fireBusy = true → m.en = false ∧ m.run = false
  neverRunsInA : s.cfg.profile = .layoutA → m.run = false ∧ m.pgPh = .high
  lowInPulse : ∀ t0, s.cuPh = .pulse c .low t0 → m.step = false
  settleT : m.settleT < 2 ^ s.cfg.tsW
  lastStepT : m.lastStepT < 2 ^ s.cfg.tsW
  pgPh : ∀ t0, m.pgPh = .low t0 → t0 < 2 ^ s.cfg.tsW

theorem BlockInvariant.motorFits {s : State} (h : BlockInvariant s) (c : Channel) : MotorFits s c (s.motor c) where
  consistent := h.channels c
  heldByFire := fun hb => (h.firing.2 hb).2 c
  neverRunsInA := fun hp => h.pulse.1 hp c
  lowInPulse := fun t0 hph => (h.pulse.2 c .low t0 hph).2 rfl
  settleT := h.times.settleT c
  lastStepT := h.times.lastStepT c
  pgPh := h.times.pgPh c

/-- Writing both channels keeps the invariant where both values fit. -/
theorem invariant_setMotors {s : State} (h : BlockInvariant s) {ml mr : Motor} (hl : MotorFits s .left ml)
    (hr : MotorFits s .right mr) : BlockInvariant { s with left := ml, right := mr } := by
  have hm : ∀ c, MotorFits s c (({ s with left := ml, right := mr } : State).motor c) := by
    intro c
    cases c
    · exact hl
    · exact hr
  exact { h with
    channels := fun c => (hm c).consistent
    firing := ⟨h.firing.1, fun hb => ⟨(h.firing.2 hb).1, fun c => (hm c).heldByFire hb⟩⟩
    pulse := by
      refine ⟨fun hp c => (hm c).neverRunsInA hp, fun c stage t0 hph => ⟨(h.pulse.2 c stage t0 hph).1, ?_⟩⟩
      rintro rfl
      exact (hm c).lowInPulse t0 hph
    times := { h.times with
      settleT := fun c => (hm c).settleT
      lastStepT := fun c => (hm c).lastStepT
      pgPh := fun c => (hm c).pgPh } }

theorem invariant_setMotor {s : State} (h : BlockInvariant s) {c : Channel} {m : Motor} (hm : MotorFits s c m) :
    BlockInvariant (s.setMotor c m) := by
  cases c
  · exact invariant_setMotors h hm (h.motorFits .right)
  · exact invariant_setMotors h (h.motorFits .left) hm

theorem MotorFits.held {s : State} {c : Channel} {m : Motor} (h : MotorFits s c m) : MotorFits s c m.held :=
  { h with
    consistent := ⟨fun hrun => Bool.noConfusion hrun, h.consistent.2⟩
    heldByFire := fun _ => ⟨rfl, rfl⟩
    neverRunsInA := fun hp => ⟨rfl, (h.neverRunsInA hp).2⟩ }

/-- A channel may run outside a fire and outside profile A. -/
theorem MotorFits.running {s : State} {c : Channel} {m : Motor} (h : MotorFits s c m) (dir divsel : Bool)
    (hts : s.ts < 2 ^ s.cfg.tsW) (hbusy : s.fireBusy = false) (hp : s.cfg.profile ≠ .layoutA) :
    MotorFits s c (m.running dir divsel s.ts) :=
  { h with
    consistent := ⟨fun _ => rfl, h.consistent.2⟩
    heldByFire := fun hb => by rw [hbusy] at hb; cases hb
    neverRunsInA := fun hA => absurd hA hp
    settleT := hts }

theorem MotorFits.turned {s : State} {c : Channel} {m : Motor} (h : MotorFits s c m) (dir : Bool)
    (hts : s.ts < 2 ^ s.cfg.tsW) : MotorFits s c { m with dir := dir, settleT := s.ts } :=
  { h with settleT := hts }

theorem MotorFits.stepLow {s : State} {c : Channel} {m : Motor} (h : MotorFits s c m) :
    MotorFits s c { m with step := false } :=
  { h with consistent := ⟨h.consistent.1, fun _ => rfl⟩, lowInPulse := fun _ _ => rfl }

/-- The step output may rise while the pulse generator is in no step and CU in no pulse. -/
theorem MotorFits.stepHigh {s : State} {c : Channel} {m : Motor} (h : MotorFits s c m) (hph : m.pgPh = .high)
    (hcu : NotPulsing s) : MotorFits s c { m with step := true } :=
  { h with
    consistent := ⟨h.consistent.1, fun hne => absurd hph hne⟩
    lowInPulse := fun t0 hp => by simp [NotPulsing, hp] at hcu }

/-! ### CU's phase -/

/-- `p` is a phase other than `FIRING` that the invariant admits in state `s`. -/
def PhaseFits (s : State) : CuPhase → Prop
  | .ready => True
  | .sleep t0 => t0 < 2 ^ s.cfg.tsW
  | .pulse c stage t0 => t0 < 2 ^ s.cfg.tsW ∧ s.cfg.profile = .layoutA ∧ (stage = .low → (s.motor c).step = false)
  | .firing => False

/-- Outside a fire and a roam step CU may take any phase that fits. -/
theorem invariant_setCuPh {s : State} (h : BlockInvariant s) (hbusy : s.fireBusy = false) (hin : s.inTick = false)
    {p : CuPhase} (hp : PhaseFits s p) : BlockInvariant { s with cuPh := p } where
  fifo := h.fifo
  trigger := h.trigger
  channels := h.channels
  framed := h.framed
  firing := by
    have hne : p ≠ .firing := by rintro rfl; exact hp
    exact ⟨by simp [hbusy, hne], fun hb => by simp [hbusy] at hb⟩
  pulse := by
    refine ⟨h.pulse.1, ?_⟩
    rintro c stage t0 rfl
    exact hp.2
  times := { h.times with
    cuSleep := by rintro t0 rfl; exact hp
    cuPulse := by rintro c stage t0 rfl; exact hp.1 }
  snapshot := ⟨h.snapshot.1, fun hb => by simp [hin] at hb⟩

/-! ### The gun, `STEER` and `MODE` -/

theorem setGun_invariant {s : State} (h : BlockInvariant s) (hbusy : s.fireBusy = false) (v : Bool) :
    BlockInvariant (s.setGun v) :=
  { h with
    firing := ⟨h.firing.1, fun hb => by simp [hbusy] at hb⟩
    times := { h.times with } }

theorem invariant_setSteer {s : State} (h : BlockInvariant s) (hp : s.cfg.profile = .teleop) (st : Steer) :
    BlockInvariant { s with steer := st } :=
  { h with
    framed := fun hne => absurd hp hne
    times := { h.times with } }

/-- Outside a roam step profile T may change its mode. -/
theorem invariant_setMode {s : State} (h : BlockInvariant s) (hp : s.cfg.profile = .teleop) (hin : s.inTick = false)
    (m : Mode) : BlockInvariant { s with mode := m } :=
  { h with
    framed := fun hne => absurd hp hne
    snapshot := ⟨h.snapshot.1, fun hb => by simp [hin] at hb⟩
    times := { h.times with } }

/-! ### Reads of a snapshot -/

/-- One read of a snapshot, of channel `k`, with channel `j` next: a roam step goes on exactly where `j` is not 0. -/
theorem invariant_read {s : State} (h : BlockInvariant s) (k j : Us) {b : Bool} (hb : b = true ↔ j ≠ 0)
    (hroam : b = true → s.cuPh = .ready ∧ s.cfg.profile = .teleop ∧ s.mode = .roam) :
    BlockInvariant { s with snap := s.snap.set k s.lrt[k], snapAt := j, inTick := b } :=
  { h with
    snapshot := ⟨hb, hroam⟩
    times := { h.times with
      snap := fun i => by
        simp only [Fin.getElem_fin, Vector.getElem_set]
        split
        · exact h.times.lrt k
        · exact h.times.snap i } }

end Sys2Proof.Machine

/-! ## The invariant under the operations of the agents other than CU -/

namespace Sys2Proof.Machine

/-! ### The pulse timer -/

theorem ptTick_invariant {s : State} (h : BlockInvariant s) : BlockInvariant (ptTick s) :=
  { h with times := { h.times with ts := Nat.mod_lt _ (Nat.two_pow_pos _) } }

theorem ptSample_invariant {s : State} (h : BlockInvariant s) (i : Us) : BlockInvariant (ptSample i s) := by
  rcases ptSample_cases s i with hq | ⟨h2, hq⟩ | ⟨h2, hq⟩
  · rw [ptSample_quiet hq]
    exact invariant_sameFields h rfl
  · rw [ptSample_rise h2 hq]
    exact { h with times := { h.times with
      letT := fun j => by
        simp only [Fin.getElem_fin, Vector.getElem_set]
        split
        · exact h.times.ts
        · exact h.times.letT j } }
  · rw [ptSample_fall h2 hq]
    exact { h with times := { h.times with
      lrt := fun j => by
        simp only [Fin.getElem_fin, Vector.getElem_set]
        split
        · exact timeSub_lt _ _ _
        · exact h.times.lrt j } }

/-- Raising a trigger while all are low (R186). -/
theorem trigRaise_invariant {s : State} (h : BlockInvariant s) {u : State} (hlow : u.trig = Vector.replicate 5 false)
    (hu : u = { s with trig := u.trig, trace := u.trace }) (k : Us) : BlockInvariant (trigRaise k u) := by
  rw [hu]
  exact { h with
    trigger := by simp [TriggerMatchesSequencer, trigRaise, hlow]
    times := { h.times with
      tseqSleep := fun t0 e => by simp [trigRaise] at e
      tseqHigh := fun j t0 e => by
        simp only [trigRaise, TSeq.high.injEq] at e
        rw [← e.2]
        exact h.times.ts } }

/-- Lowering the one trigger that is high leaves all low (R186). -/
theorem trig_lowered {s : State} (h : TriggerMatchesSequencer s) {k : Us} {t0 : Nat} (hk : s.tseq = .high k t0) :
    (s.setTrig k false).trig = Vector.replicate 5 false := by
  simp only [TriggerMatchesSequencer, hk] at h
  rw [State.setTrig_trig, h]
  ext i hi
  simp

theorem trig_low {s : State} (h : TriggerMatchesSequencer s) (hk : ∀ k t0, s.tseq ≠ .high k t0) :
    s.trig = Vector.replicate 5 false := by
  unfold TriggerMatchesSequencer at h
  split at h
  · next k t0 e => exact absurd e (hk k t0)
  · exact h

theorem trigAdvance_invariant {s : State} (h : BlockInvariant s) {k : Us} {t0 : Nat} (hk : s.tseq = .high k t0) :
    BlockInvariant (trigAdvance k s) := by
  have hlow := trig_lowered h.trigger hk
  rcases trigAdvance_spec s k with ⟨-, e⟩ | ⟨j, -, e⟩
  · rw [e]
    exact { h with
      trigger := hlow
      times := { h.times with
        tseqSleep := fun t e => by
          simp only [TSeq.sleep.injEq] at e
          rw [← e]
          exact h.times.ts
        tseqHigh := fun j t e => by simp at e } }
  · rw [e]
    exact trigRaise_invariant h hlow rfl j

theorem ptTrigall_invariant {s : State} (h : BlockInvariant s) : BlockInvariant (ptTrigall s) := by
  rcases ptTrigall_cases s with ⟨hk, e⟩ | ⟨k, t0, hk, -, e⟩ | e <;> rw [e]
  · exact trigRaise_invariant h (trig_low h.trigger hk) rfl 0
  · exact trigAdvance_invariant h hk
  · exact h

/-! ### The pulse generators and the fire timer -/

theorem pgLow_invariant {s : State} (h : BlockInvariant s) {c : Channel} (hrun : (s.motor c).run = true) :
    BlockInvariant (pgLow c s) := by
  have hm : MotorFits s c { s.motor c with step := false, pgPh := .low s.ts } :=
    { (h.motorFits c).stepLow with
      consistent := ⟨(h.channels c).1, fun _ => rfl⟩
      neverRunsInA := fun hA => by simp [(h.pulse.1 hA c).1] at hrun
      pgPh := fun t0 e => by cases e; exact h.times.ts }
  rw [pgLow_spec]
  exact invariant_sameFields (invariant_setMotor h hm) rfl

theorem pgHigh_invariant {s : State} (h : BlockInvariant s) {c : Channel} {t0 : Nat} (hph : (s.motor c).pgPh = .low t0) :
    BlockInvariant (pgHigh c s) := by
  have hA : s.cfg.profile ≠ .layoutA := fun hA => by simp [(h.pulse.1 hA c).2] at hph
  have hm : MotorFits s c { s.motor c with step := true, pgPh := .high, lastStepT := s.ts } :=
    { h.motorFits c with
      consistent := ⟨(h.channels c).1, fun hne => absurd rfl hne⟩
      neverRunsInA := fun hA' => absurd hA' hA
      lowInPulse := fun t hp => absurd (h.pulse.2 _ _ _ hp).1 hA
      lastStepT := h.times.ts
      pgPh := fun t e => PgPhase.noConfusion e }
  rw [pgHigh_spec]
  exact invariant_sameFields (invariant_setMotor h hm) rfl

theorem mdPgStep_invariant {s : State} (h : BlockInvariant s) (c : Channel) : BlockInvariant (mdPgStep c s) := by
  rcases mdPgStep_cases s c with ⟨-, hen, e⟩ | ⟨t0, hph, -, e⟩ | ⟨-, -, e⟩ <;> rw [e]
  · simp only [pgLowEnabled, Bool.and_eq_true] at hen
    obtain ⟨⟨hrun, -⟩, -⟩ := hen
    exact pgLow_invariant h hrun
  · exact pgHigh_invariant h hph
  · exact h

/-! A busy fire, a pulse and a roam step exclude each other: each fixes CU's phase. -/

theorem BlockInvariant.firing_of_busy {s : State} (h : BlockInvariant s) (hbusy : s.fireBusy = true) : s.cuPh = .firing :=
  h.firing.1.2 hbusy

theorem BlockInvariant.notBusy {s : State} (h : BlockInvariant s) (hph : s.cuPh ≠ .firing) : s.fireBusy = false := by
  by_contra hb
  exact hph (h.firing_of_busy (by simpa using hb))

theorem BlockInvariant.notInTick {s : State} (h : BlockInvariant s) (hph : s.cuPh ≠ .ready) : s.inTick = false := by
  by_contra hin
  exact hph (h.snapshot.2 (by simpa using hin)).1

theorem mdFireEnd_invariant {s : State} (h : BlockInvariant s) : BlockInvariant (mdFireEnd s) := by
  rcases mdFireEnd_cases s with ⟨hen, e⟩ | ⟨-, e⟩ <;> rw [e]
  · have hbusy : s.fireBusy = true := by
      simp only [fireEndEnabled, Bool.and_eq_true] at hen
      exact hen.1
    have hin : s.inTick = false := h.notInTick (by simp [h.firing_of_busy hbusy])
    exact { h with
      framed := fun hp => by
        obtain ⟨-, -, -, -, hfree⟩ := h.framed hp
        simp [hfree] at hbusy
      firing := ⟨by simp, fun hb => by simp at hb⟩
      pulse := ⟨h.pulse.1, fun c stage t0 e => CuPhase.noConfusion e⟩
      snapshot := ⟨h.snapshot.1, fun hb => by simp [hin] at hb⟩
      times := { h.times with
        cuSleep := fun t0 e => by cases e; exact h.times.ts
        cuPulse := fun c stage t0 e => CuPhase.noConfusion e } }
  · exact h

/-! ### Reset -/

theorem resetMotor_consistent (en : Bool) (now : Nat) : ChannelConsistent (Motor.reset en now) :=
  ⟨fun h => Bool.noConfusion h, fun h => absurd rfl h⟩

/-- A state right after reset has the invariant, whatever the build and the draws are (R50). -/
theorem afterReset_invariant (cfg : Config) (ports : Ports) (n : Nat) (inputs : List Ports) (schedule : List Move)
    (slot : Slot) : BlockInvariant (State.afterReset cfg ports n inputs schedule slot) := by
  have hpos : 0 < 2 ^ cfg.tsW := Nat.two_pow_pos _
  constructor
  · exact Nat.zero_le _
  · rfl
  · intro c; cases c <;> exact resetMotor_consistent _ _
  · exact fun _ => ⟨rfl, rfl, rfl, rfl, rfl⟩
  · exact ⟨by simp [State.afterReset], fun hb => Bool.noConfusion hb⟩
  · exact ⟨fun _ c => by cases c <;> exact ⟨rfl, rfl⟩, fun c stage t0 e => CuPhase.noConfusion e⟩
  · constructor
    · exact Nat.mod_lt _ hpos
    · intro i; simp [State.afterReset]
    · intro i; simp [State.afterReset]
    · intro i; simp [State.afterReset]
    · exact Nat.mod_lt _ hpos
    · intro c; cases c <;> exact Nat.mod_lt _ hpos
    · intro c; cases c <;> exact Nat.mod_lt _ hpos
    · intro c t0 e; cases c <;> exact PgPhase.noConfusion e
    · exact fun t0 e => TSeq.noConfusion e
    · exact fun k t0 e => TSeq.noConfusion e
    · exact fun t0 e => CuPhase.noConfusion e
    · exact fun c stage t0 e => CuPhase.noConfusion e
  · exact ⟨by simp [State.afterReset], fun hb => Bool.noConfusion hb⟩

end Sys2Proof.Machine

/-! ## The invariant under the operations of CU -/

namespace Sys2Proof.Machine

/-! ### Motor operations -/

theorem hold_invariant {s : State} (h : BlockInvariant s) (c : Channel) : BlockInvariant (s.hold c) := by
  rw [hold_spec]
  exact invariant_sameFields (invariant_setMotor h (h.motorFits c).held) rfl

theorem run_invariant {s : State} (h : BlockInvariant s) (hbusy : s.fireBusy = false) (hp : s.cfg.profile ≠ .layoutA)
    (c : Channel) (dir divsel : Bool) : BlockInvariant (s.run c dir divsel) := by
  rw [run_spec]
  exact invariant_sameFields (invariant_setMotor h ((h.motorFits c).running dir divsel h.times.ts hbusy hp)) rfl

theorem runningBoth_invariant {s : State} (h : BlockInvariant s) (hbusy : s.fireBusy = false)
    (hp : s.cfg.profile ≠ .layoutA) (dl dr v : Bool) : BlockInvariant (runningBoth s dl dr v) :=
  invariant_sameFields (invariant_setMotors h ((h.motorFits .left).running dl v h.times.ts hbusy hp)
    ((h.motorFits .right).running dr v h.times.ts hbusy hp)) rfl

theorem setVel_invariant {s : State} (h : BlockInvariant s) (hbusy : s.fireBusy = false) (hp : s.cfg.profile ≠ .layoutA)
    (c : Channel) (v : Int) : BlockInvariant (s.setVel c v) := by
  rw [setVel_spec]
  split
  · exact hold_invariant h c
  · exact run_invariant h hbusy hp c _ _

/-- Both channels held: what MD.STOPALL and MD.FIRE begin with (R156, R157). -/
theorem invariant_heldBoth {s : State} (h : BlockInvariant s) :
    BlockInvariant { s with left := s.left.held, right := s.right.held } :=
  invariant_setMotors h (h.motorFits .left).held (h.motorFits .right).held

theorem stopAll_invariant {s : State} (h : BlockInvariant s) (hbusy : s.fireBusy = false) : BlockInvariant s.stopAll := by
  rw [stopAll_spec]
  exact invariant_sameFields (setGun_invariant (invariant_heldBoth h) hbusy (s.gun && !s.cfg.stopallRetracts)) rfl

/-- A fire begins in profile T, outside a roam step (R157, R218). -/
theorem fire_invariant {s : State} (h : BlockInvariant s) (hp : s.cfg.profile = .teleop) (hin : s.inTick = false) :
    BlockInvariant s.fire := by
  have hheld := invariant_heldBoth h
  rw [fire_spec]
  exact { hheld with
    framed := fun hne => absurd hp hne
    firing := ⟨by simp, fun _ => ⟨rfl, fun c => by cases c <;> exact ⟨rfl, rfl⟩⟩⟩
    pulse := ⟨hheld.pulse.1, fun c stage t0 e => CuPhase.noConfusion e⟩
    snapshot := ⟨h.snapshot.1, fun hb => by simp [hin] at hb⟩
    times := { hheld.times with
      fireT0 := h.times.ts
      cuSleep := fun t0 e => CuPhase.noConfusion e
      cuPulse := fun c stage t0 e => CuPhase.noConfusion e } }

/-! ### MD.PULSE (R152) -/

theorem pulseBegin_invariant {s : State} (h : BlockInvariant s) (hbusy : s.fireBusy = false) (hin : s.inTick = false)
    (hA : s.cfg.profile = .layoutA) (c : Channel) (dir : Bool) : BlockInvariant (s.pulseBegin c dir) := by
  have hturned := invariant_setMotor h ((h.motorFits c).turned dir h.times.ts)
  have hphase := invariant_setCuPh hturned hbusy hin (p := .pulse c .settle s.ts)
    ⟨h.times.ts, hA, fun e => PulseStage.noConfusion e⟩
  rw [pulseBegin_spec]
  exact invariant_sameFields hphase rfl

theorem pulseNext_invariant {s : State} (h : BlockInvariant s) {c : Channel} {stage : PulseStage} {t0 : Nat}
    (hph : s.cuPh = .pulse c stage t0) : BlockInvariant (s.pulseNext c stage t0) := by
  have hbusy : s.fireBusy = false := h.notBusy (by simp [hph])
  have hin : s.inTick = false := h.notInTick (by simp [hph])
  have hA : s.cfg.profile = .layoutA := (h.pulse.2 c stage t0 hph).1
  rw [pulseNext_spec]
  cases stage with
  | settle =>
    simp only []
    split
    · have hlow : BlockInvariant (s.setMotor c { s.motor c with step := false }) :=
        invariant_setMotor h (h.motorFits c).stepLow
      have hphase := invariant_setCuPh hlow hbusy hin (p := .pulse c .low s.ts)
        ⟨h.times.ts, hA, fun _ => by rw [State.motor_setMotor_self]⟩
      exact invariant_sameFields hphase rfl
    · exact h
  | low =>
    simp only []
    split
    · have hsleep : BlockInvariant { s with cuPh := .sleep s.ts } := invariant_setCuPh h hbusy hin h.times.ts
      have hhigh := invariant_setMotor hsleep ((hsleep.motorFits c).stepHigh (h.pulse.1 hA c).2 trivial)
      exact invariant_sameFields hhigh (by cases c <;> rfl)
    · exact h

theorem mdPulse_invariant {s : State} (h : BlockInvariant s) {c : Channel} {stage : PulseStage} {t0 : Nat}
    (hph : s.cuPh = .pulse c stage t0) (d : Channel) (dir : Bool) : BlockInvariant (mdPulse d dir s) := by
  rw [mdPulse_next hph]
  exact pulseNext_invariant h hph

/-! ### The commands of a control tick

A command runs in a tick that CU has begun: CU is ready, so no fire is busy, and no roam step is in progress. -/

/-- CU has begun a tick and is not yet inside its roam step (R210). -/
structure TickBegun (s : State) : Prop where
  inv : BlockInvariant s
  ready : s.cuPh = .ready
  outside : s.inTick = false

theorem TickBegun.notBusy {s : State} (h : TickBegun s) : s.fireBusy = false := h.inv.notBusy (by simp [h.ready])

theorem TickBegun.raise {s : State} (h : TickBegun s) (r : Result) : TickBegun (s.raise r) :=
  ⟨raise_invariant h.inv r, h.ready, h.outside⟩

theorem TickBegun.rxDrop {s : State} (h : TickBegun s) (n : Nat) : TickBegun (s.rxDrop n) :=
  ⟨rxDrop_invariant h.inv n, h.ready, h.outside⟩

theorem dispatchA_invariant {s : State} (h : TickBegun s) (hA : s.cfg.profile = .layoutA) (f : FrameA) :
    BlockInvariant (dispatchA f s) := by
  rcases dispatchA_cases f s with ⟨r, e⟩ | ⟨c, dir, e⟩ <;> rw [e]
  · exact raise_invariant h.inv r
  · exact pulseBegin_invariant (raise_invariant h.inv .ok) h.notBusy h.outside hA c dir

theorem dispatchB_invariant {s : State} (h : TickBegun s) (hB : s.cfg.profile = .layoutB) (f : FrameB) :
    BlockInvariant (dispatchB f s) := by
  have hok := raise_invariant h.inv .ok
  have hA : s.cfg.profile ≠ .layoutA := by simp [hB]
  rcases dispatchB_cases f s with ⟨r, e⟩ | e | ⟨v, e⟩ | ⟨c, v, e⟩ <;> rw [e]
  · exact raise_invariant h.inv r
  · exact stopAll_invariant hok h.notBusy
  · exact setGun_invariant hok h.notBusy v
  · exact setVel_invariant hok h.notBusy hA c v

theorem sfFrame_invariant {s : State} (h : TickBegun s) : BlockInvariant (sfFrame s) := by
  rcases sfFrame_cases s with e | ⟨hA, f, e⟩ | ⟨hB, f, e⟩ <;> rw [e]
  · exact h.inv
  · exact dispatchA_invariant (h.rxDrop 3) hA f
  · exact dispatchB_invariant (h.rxDrop 4) hB f

theorem dispatchT_invariant {s : State} (h : TickBegun s) (hT : s.cfg.profile = .teleop) (ch : Byte) :
    BlockInvariant (dispatchT ch s) := by
  have hok := raise_invariant h.inv .ok
  have hA : s.cfg.profile ≠ .layoutA := by simp [hT]
  rcases dispatchT_cases ch s with ⟨st, dl, dr, dv, e⟩ | ⟨-, e⟩ | ⟨-, e⟩ | e | e <;> rw [e]
  · rw [runBoth_spec]
    exact runningBoth_invariant (invariant_setSteer hok hT st) h.notBusy hA dl dr dv
  · exact raise_invariant h.inv .reentrant
  · exact fire_invariant hok hT h.outside
  · exact invariant_setSteer (invariant_setMode hok hT h.outside .roam) hT .none
  · exact stopAll_invariant (invariant_setSteer hok hT .stop) h.notBusy

theorem TickBegun.acceptChar {s : State} (h : TickBegun s) (hT : s.cfg.profile = .teleop) (ch : Byte) :
    TickBegun (acceptChar ch s) where
  inv :=
    { h.inv with
      framed := fun hne => absurd hT hne
      snapshot := ⟨h.inv.snapshot.1, fun hb => by simp [Machine.acceptChar, h.outside] at hb⟩
      times := { h.inv.times with } }
  ready := h.ready
  outside := h.outside

theorem tAccept_invariant {s : State} (h : TickBegun s) (hT : s.cfg.profile = .teleop) (ch : Byte) :
    BlockInvariant (tAccept ch s) := by
  rcases tAccept_cases ch s with ⟨-, e⟩ | ⟨-, e⟩ <;> rw [e]
  · exact raise_invariant h.inv .debounced
  · exact dispatchT_invariant (h.acceptChar hT ch) hT ch

/-! ### The control tick (R210) -/

theorem endTick_invariant {s : State} (h : BlockInvariant s) (hph : s.cuPh ≠ .firing) (hin : s.inTick = false) :
    BlockInvariant (endTick s) := by
  rcases endTick_cases s with ⟨_, _, _, -, e⟩ | ⟨-, e⟩ <;> rw [e]
  · exact h
  · exact invariant_setCuPh h (h.notBusy hph) hin h.times.ts

/-- A tick of a framed profile: one framer step and the end of the tick. -/
theorem framedTick_invariant {s : State} (h : TickBegun s) : BlockInvariant (endTick (sfFrame s)) := by
  have hph : (sfFrame s).cuPh ≠ .firing := by
    rcases sfFrame_cuPh s with e | ⟨c, e⟩ <;> simp [e, h.ready]
  exact endTick_invariant (sfFrame_invariant h) hph (by rw [sfFrame_inTick, h.outside])

/-- What is left of a tick once its character is read: a fire, or a tick still outside its roam step. -/
theorem readChar_keeps {s : State} (h : TickBegun s) (hT : s.cfg.profile = .teleop) :
    BlockInvariant (readChar s) ∧ (readChar s).inTick = false ∧ (readChar s).cfg.profile = .teleop ∧
      ((readChar s).cuPh = .ready ∨ (readChar s).cuPh = .firing) := by
  rcases readChar_cases s with ⟨-, e⟩ | ⟨ch, rest, hq, e⟩
  · rw [e]
    exact ⟨h.inv, h.outside, hT, .inl h.ready⟩
  · have hdrop : TickBegun { s with rxq := rest } := by
      have := h.rxDrop 1
      rwa [State.rxDrop, hq, List.drop_one, List.tail_cons] at this
    rw [e, (tAccept_frame ch _).1, tAccept_inTick]
    exact ⟨tAccept_invariant hdrop hT ch, h.outside, hT, by simpa [h.ready] using tAccept_cuPh ch { s with rxq := rest }⟩

theorem roamAndSleep_invariant {s : State} (h : BlockInvariant s) (hin : s.inTick = false) (hT : s.cfg.profile = .teleop)
    (hph : s.cuPh = .ready ∨ s.cuPh = .firing) : BlockInvariant (roamAndSleep s) := by
  rcases roamAndSleep_cases s with ⟨-, e⟩ | ⟨hne, hroam, e⟩ | ⟨hne, -, e⟩ <;> rw [e]
  · exact h
  · exact invariant_read h 0 1 (by decide) fun _ => ⟨hph.resolve_right hne, hT, hroam⟩
  · exact endTick_invariant h hne hin

theorem tickBody_invariant {s : State} (h : TickBegun s) : BlockInvariant (tickBody s) := by
  unfold tickBody
  split
  · exact framedTick_invariant h
  · exact framedTick_invariant h
  · next hT =>
    obtain ⟨hinv, hin, hT', hph⟩ := readChar_keeps h hT
    exact roamAndSleep_invariant hinv hin hT' hph

/-- RM's decision drives the motors in profile T, outside a fire (R222). -/
theorem steerBy_invariant {s : State} (h : BlockInvariant s) (hT : s.cfg.profile = .teleop) (hbusy : s.fireBusy = false)
    (r : Readings) : BlockInvariant (steerBy r s) := by
  have hA : s.cfg.profile ≠ .layoutA := by simp [hT]
  rcases steerBy_cases r s with ⟨-, -, e⟩ | ⟨-, -, e⟩ | ⟨-, -, e⟩ <;> rw [e]
  · exact invariant_setSteer (runningBoth_invariant h hbusy hA true false true) hT .right
  · exact invariant_setSteer (runningBoth_invariant h hbusy hA true true false) hT .forward
  · exact h

/-- A move inside a roam step: the last read ends the roam step before the decision counts, any other read goes on (R188). -/
theorem roamMove_invariant {s : State} (h : BlockInvariant s) (hin : s.inTick = true) : BlockInvariant (roamMove s) := by
  obtain ⟨hready, hT, hroam⟩ := h.snapshot.2 hin
  rcases roamMove_cases s with ⟨hlast, e⟩ | ⟨hmore, e⟩ <;> rw [e]
  · have hread : BlockInvariant { readNext s with inTick := false } :=
      invariant_read h s.snapAt (s.snapAt + 1) (by simp [hlast]) (fun hb => Bool.noConfusion hb)
    have hne : s.cuPh ≠ .firing := by simp [hready]
    have hsteer := steerBy_invariant hread hT (h.notBusy hne) (readNext s).snap
    rw [steerBy_setInTick]
    refine endTick_invariant hsteer ?_ ?_
    · rw [steerBy_frame]; exact hne
    · rw [steerBy_frame]
  · have hgo : s.snapAt + 1 ≠ 0 := by
      generalize s.snapAt = k at hmore
      revert k
      decide
    exact invariant_read h s.snapAt (s.snapAt + 1) (by simp [hgo]) fun _ => ⟨hready, hT, hroam⟩

/-- CU begins a tick when it is awake (R210). -/
theorem BlockInvariant.tickBegun {s : State} (h : BlockInvariant s) (hin : s.inTick = false) (hawake : cuAwake s = true) :
    TickBegun { s with cuPh := .ready } where
  inv := by
    have hne : s.cuPh ≠ .firing := fun hph => by simp [cuAwake, hph] at hawake
    exact invariant_setCuPh h (h.notBusy hne) hin trivial
  ready := rfl
  outside := hin

theorem cuTick_invariant {s : State} (h : BlockInvariant s) : BlockInvariant (cuTick s) := by
  rcases cuTick_cases s with ⟨hin, e⟩ | ⟨hin, hawake, e⟩ | ⟨-, -, e⟩ <;> rw [e]
  · exact roamMove_invariant h hin
  · exact tickBody_invariant (h.tickBegun hin hawake)
  · exact h

end Sys2Proof.Machine

/-! ## Every step keeps the invariant -/

namespace Sys2Proof.Machine

/-- A move of an agent or of the environment, named in `s` and made in `r`, where CU is in the same phase. -/
theorem move_invariant {s r t : State} (hr : BlockInvariant r) (hph : r.cuPh = s.cuPh) (m : Move)
    (h : exec (moveInstr s m) r = .next t) : BlockInvariant t := by
  cases m with
  | tick =>
    obtain ⟨-, rfl⟩ := onBuild_next_iff.1 h
    exact ptTick_invariant hr
  | sample i =>
    obtain ⟨-, rfl⟩ := onBuild_next_iff.1 h
    exact ptSample_invariant hr i
  | trig =>
    obtain ⟨-, rfl⟩ := onBuild_next_iff.1 h
    exact ptTrigall_invariant hr
  | cu =>
    change exec (cuInstr s) r = .next t at h
    rcases cuInstr_cases s with e | ⟨c, stage, t0, dir, hpulse, e⟩ <;> rw [e] at h
    · obtain ⟨-, rfl⟩ := onBuild_next_iff.1 h
      exact cuTick_invariant hr
    · obtain ⟨-, rfl⟩ := onBuild_next_iff.1 h
      exact mdPulse_invariant hr (hph.trans hpulse) c dir
  | pg c =>
    obtain ⟨-, rfl⟩ := onBuild_next_iff.1 h
    exact mdPgStep_invariant hr c
  | fireEnd =>
    obtain ⟨-, rfl⟩ := onBuild_next_iff.1 h
    exact mdFireEnd_invariant hr
  | rxPush b =>
    obtain ⟨-, rfl⟩ := onBuild_next_iff.1 h
    exact rxPush_invariant hr b
  | echo i level =>
    obtain ⟨-, rfl⟩ := onBuild_next_iff.1 h
    exact invariant_sameFields hr rfl
  | reset =>
    obtain ⟨-, rfl⟩ := onBuild_next_iff.1 h
    exact afterReset_invariant _ _ _ _ _ _

/-- Settles O52: the cases of a step, each by the lemma of the operation that ran. -/
theorem stepKeepsInvariant : Obligations.StepKeepsInvariant := by
  intro s t h hstep
  obtain ⟨-, hcase⟩ := step_cases hstep
  cases hcase with
  | moved m r hr hexec => exact move_invariant (hr.invariant h) (by rw [hr]) m hexec
  | reading hin hexec =>
    obtain ⟨-, rfl⟩ := onBuild_next_iff.1 hexec
    exact cuTick_invariant h
  | resetAtEdge hslot hrst hexec =>
    obtain ⟨-, rfl⟩ := onBuild_next_iff.1 hexec
    exact afterReset_invariant _ _ _ _ _ _
  | released hslot hrst hwas e =>
    rw [e]
    exact countTicks_invariant (loadSync_invariant (atEdge_invariant h))
  | edge hslot hrst hwas e =>
    rw [e]
    exact countTicks_invariant (atEdge_invariant h)
  | idle e =>
    rw [e]
    exact (leaveSlot_same s).invariant h

end Sys2Proof.Machine

/-! ## Register writes: what every operation but the captures and the reset is made of -/

namespace Sys2Proof.Machine

/-- `t` has the build, the registers that drive an output port and the output trace of `s`. -/
def SamePorts (s t : State) : Prop :=
  t = { t with
    cfg := s.cfg, trig := s.trig, left := s.left, right := s.right, gun := s.gun, trace := s.trace }

/-- One write that an operation makes: a register that drives a port, with the event of its change (R20, R21), or registers
that drive none. No write reaches `LET` or `LRT`. -/
inductive Write (s : State) : State → Prop where
  | en (c : Channel) (v : Bool) : Write s (s.setEn c v)
  | dir (c : Channel) (v : Bool) : Write s (s.setDir c v)
  | step (c : Channel) (v : Bool) : Write s (s.setStep c v)
  | gun (v : Bool) : Write s (s.setGun v)
  | trig (k : Us) (v : Bool) : Write s (s.setTrig k v)
  /-- fields of a motor channel that drive no port -/
  | motor (c : Channel) (m : Motor) (hen : m.en = (s.motor c).en) (hdir : m.dir = (s.motor c).dir)
      (hstep : m.step = (s.motor c).step) : Write s (s.setMotor c m)
  /-- any other register but `LET` and `LRT` -/
  | quiet {t : State} (h : SamePorts s t) (hlet : t.letT = s.letT) (hlrt : t.lrt = s.lrt) : Write s t

/-- `t` is what a sequence of writes leaves of `s`. -/
abbrev Writes : State → State → Prop := Relation.ReflTransGen Write

/-- One write of registers that drive no port. -/
theorem writes_quiet {s t : State} (h : SamePorts s t) (hlet : t.letT = s.letT) (hlrt : t.lrt = s.lrt) : Writes s t :=
  .single (.quiet h hlet hlrt)

theorem SameBlock.samePorts {s r : State} (h : SameBlock s r) : SamePorts s r := by
  rw [h]
  rfl

/-- No write reaches `LET` or `LRT`. -/
theorem Writes.captures {s t : State} (h : Writes s t) : t.letT = s.letT ∧ t.lrt = s.lrt := by
  induction h with
  | refl => exact ⟨rfl, rfl⟩
  | tail _ w ih =>
    obtain ⟨ihlet, ihlrt⟩ := ih
    cases w with
    | en c v => exact ⟨ihlet, ihlrt⟩
    | dir c v => exact ⟨ihlet, ihlrt⟩
    | step c v => exact ⟨ihlet, ihlrt⟩
    | gun v => exact ⟨ihlet, ihlrt⟩
    | trig k v => exact ⟨ihlet, ihlrt⟩
    | motor c m => exact ⟨ihlet, ihlrt⟩
    | quiet h hlet hlrt => exact ⟨hlet.trans ihlet, hlrt.trans ihlrt⟩

/-! ### The motor operations (R152 to R159) -/

theorem setRun_write (s : State) (c : Channel) (v : Bool) : Write s (s.setRun c v) := .motor c _ rfl rfl rfl

theorem setDivsel_write (s : State) (c : Channel) (v : Bool) : Write s (s.setDivsel c v) := .motor c _ rfl rfl rfl

theorem restartSettle_write (s : State) (c : Channel) : Write s (s.restartSettle c) := .motor c _ rfl rfl rfl

theorem hold_writes (s : State) (c : Channel) : Writes s (s.hold c) :=
  .tail (.single (setRun_write s c false)) (.en c false)

theorem run_writes (s : State) (c : Channel) (dir divsel : Bool) : Writes s (s.run c dir divsel) :=
  ((((Relation.ReflTransGen.single (Write.en c true)).tail (.dir c dir)).tail (setDivsel_write _ c divsel)).tail
    (restartSettle_write _ c)).tail (setRun_write _ c true)

theorem runBoth_writes (s : State) (dl dr divsel : Bool) : Writes s (s.runBoth dl dr divsel) :=
  (run_writes s .left dl divsel).trans (run_writes _ .right dr divsel)

theorem setVel_writes (s : State) (c : Channel) (v : Int) : Writes s (s.setVel c v) := by
  rw [setVel_spec]
  split_ifs
  · exact hold_writes s c
  · exact run_writes s c _ _

theorem holdBoth_writes (s : State) : Writes s ((s.hold .left).hold .right) :=
  (hold_writes s .left).trans (hold_writes _ .right)

theorem stopAll_writes (s : State) : Writes s s.stopAll := by
  unfold State.stopAll
  split
  · exact (holdBoth_writes s).tail (.gun false)
  · exact holdBoth_writes s

theorem fire_writes (s : State) : Writes s s.fire :=
  ((holdBoth_writes s).tail (.gun true)).tail (.quiet rfl rfl rfl)

theorem pulseBegin_writes (s : State) (c : Channel) (dir : Bool) : Writes s (s.pulseBegin c dir) :=
  ((Relation.ReflTransGen.single (Write.dir c dir)).tail (restartSettle_write _ c)).tail (.quiet rfl rfl rfl)

theorem pulseNext_writes (s : State) (c : Channel) (stage : PulseStage) (t0 : Nat) :
    Writes s (s.pulseNext c stage t0) := by
  rw [pulseNext_spec]
  cases stage with
  | settle =>
    simp only []
    split
    · exact .tail (.single (.step c false)) (.quiet rfl rfl rfl)
    · exact .refl
  | low =>
    simp only []
    split
    · exact .tail (.single (.step c true)) (.quiet rfl rfl rfl)
    · exact .refl

theorem mdPulse_writes (s : State) (c : Channel) (dir : Bool) : Writes s (mdPulse c dir s) := by
  unfold mdPulse
  split
  · exact pulseNext_writes s _ _ _
  · exact pulseBegin_writes s c dir
  · exact pulseBegin_writes s c dir
  · exact pulseBegin_writes s c dir

theorem mdFireEnd_writes (s : State) : Writes s (mdFireEnd s) := by
  rcases mdFireEnd_cases s with ⟨-, e⟩ | ⟨-, e⟩ <;> rw [e]
  · exact .tail (.single (.gun false)) (.quiet rfl rfl rfl)

theorem mdPgStep_writes (s : State) (c : Channel) : Writes s (mdPgStep c s) := by
  rcases mdPgStep_cases s c with ⟨-, -, e⟩ | ⟨t0, -, -, e⟩ | ⟨-, -, e⟩ <;> rw [e]
  · exact .tail (.single (.step c false)) (.motor c _ rfl rfl rfl)
  · exact .tail (.single (.step c true)) (.motor c _ rfl rfl rfl)

/-! ### The trigger sequencer and the snapshot (R186, R188) -/

theorem trigRaise_writes (k : Us) (s : State) : Writes s (trigRaise k s) :=
  .tail (.single (.trig k true)) (.quiet rfl rfl rfl)

theorem trigAdvance_writes (k : Us) (s : State) : Writes s (trigAdvance k s) := by
  have hlow : Writes s (s.setTrig k false) := .single (.trig k false)
  rcases trigAdvance_spec s k with ⟨-, e⟩ | ⟨j, -, e⟩ <;> rw [e]
  · exact hlow.tail (.quiet rfl rfl rfl)
  · exact hlow.trans (trigRaise_writes j _)

theorem ptTrigall_writes (s : State) : Writes s (ptTrigall s) := by
  rcases ptTrigall_cases s with ⟨-, e⟩ | ⟨k, t0, -, -, e⟩ | e <;> rw [e]
  · exact trigRaise_writes 0 s
  · exact trigAdvance_writes k s

theorem ptSnapshot_writes (s : State) : Writes s (ptSnapshot s) := by
  rcases ptSnapshot_cases s with ⟨-, e⟩ | ⟨-, e⟩ <;> rw [e] <;> exact writes_quiet rfl rfl rfl

/-! ### The commands of the framed profiles (R120 to R138) -/

theorem raise_writes (s : State) (r : Result) : Writes s (s.raise r) := writes_quiet rfl rfl rfl

theorem rxDrop_writes (s : State) (n : Nat) : Writes s (s.rxDrop n) := writes_quiet rfl rfl rfl

theorem rxPush_writes (s : State) (b : Byte) : Writes s (s.rxPush b) := by
  rcases rxPush_spec s b with ⟨-, e⟩ | ⟨-, e⟩ <;> rw [e] <;> exact writes_quiet rfl rfl rfl

theorem dispatchA_writes (f : FrameA) (s : State) : Writes s (dispatchA f s) := by
  rcases dispatchA_cases f s with ⟨r, e⟩ | ⟨c, dir, e⟩ <;> rw [e]
  · exact raise_writes s r
  · exact (raise_writes s .ok).trans (pulseBegin_writes _ c dir)

theorem dispatchB_writes (f : FrameB) (s : State) : Writes s (dispatchB f s) := by
  have hok := raise_writes s .ok
  rcases dispatchB_cases f s with ⟨r, e⟩ | e | ⟨v, e⟩ | ⟨c, v, e⟩ <;> rw [e]
  · exact raise_writes s r
  · exact hok.trans (stopAll_writes _)
  · exact hok.tail (.gun v)
  · exact hok.trans (setVel_writes _ c v)

theorem sfFrame_writes (s : State) : Writes s (sfFrame s) := by
  rcases sfFrame_cases s with e | ⟨-, f, e⟩ | ⟨-, f, e⟩ <;> rw [e]
  · exact (rxDrop_writes s 3).trans (dispatchA_writes f _)
  · exact (rxDrop_writes s 4).trans (dispatchB_writes f _)

/-! ### The characters and the roam step (R212 to R223) -/

/-- What a character of a motion or a stop records before it drives the motors. -/
theorem okSteer_writes (s : State) (st : Steer) : Writes s { s.raise .ok with steer := st } := writes_quiet rfl rfl rfl

/-- The motions `w`, `s`, `a` and `d` (R214 to R217). -/
theorem motion_writes (s : State) (st : Steer) (dl dr divsel : Bool) :
    Writes s ({ s.raise .ok with steer := st }.runBoth dl dr divsel) :=
  (okSteer_writes s st).trans (runBoth_writes _ dl dr divsel)

/-- The stop of `q` and of every other character (R220, R221). -/
theorem stopCharacter_writes (s : State) : Writes s ({ s.raise .ok with steer := .stop }.stopAll) :=
  (okSteer_writes s .stop).trans (stopAll_writes _)

theorem tF_writes (s : State) : Writes s (tF s) := by
  unfold tF
  split
  · exact raise_writes s .reentrant
  · exact (raise_writes s .ok).trans (fire_writes _)

theorem tR_writes (s : State) : Writes s (tR s) := writes_quiet rfl rfl rfl

theorem dispatchT_writes (ch : Byte) (s : State) : Writes s (dispatchT ch s) := by
  rcases dispatchT_cases ch s with ⟨st, dl, dr, dv, e⟩ | ⟨-, e⟩ | ⟨-, e⟩ | e | e <;> rw [e]
  · exact motion_writes s st dl dr dv
  · exact raise_writes s .reentrant
  · exact (raise_writes s .ok).trans (fire_writes _)
  · exact tR_writes s
  · exact stopCharacter_writes s

theorem tAccept_writes (ch : Byte) (s : State) : Writes s (tAccept ch s) := by
  rcases tAccept_cases ch s with ⟨-, e⟩ | ⟨-, e⟩ <;> rw [e]
  · exact raise_writes s .debounced
  · have haccept : Writes s (acceptChar ch s) := writes_quiet rfl rfl rfl
    exact haccept.trans (dispatchT_writes ch _)

theorem applySteer_writes (cmd : SteeringCommand) (s : State) : Writes s (applySteer cmd s) := by
  cases cmd with
  | forward => exact runBoth_writes s _ _ _
  | left => exact runBoth_writes s _ _ _
  | right => exact runBoth_writes s _ _ _
  | stop => exact stopAll_writes s

theorem steerBy_writes (r : Readings) (s : State) : Writes s (steerBy r s) := by
  unfold steerBy
  dsimp only
  split
  · exact .refl
  · exact (applySteer_writes _ s).tail (.quiet rfl rfl rfl)

theorem readNext_writes (s : State) : Writes s (readNext s) := writes_quiet rfl rfl rfl

theorem roamStep_writes (s : State) : Writes s (roamStep s) := by
  rcases roamStep_cases s with ⟨-, e⟩ | ⟨-, e⟩ <;> rw [e]
  · exact (readNext_writes s).trans (steerBy_writes _ _)
  · exact readNext_writes s

/-! ### The control tick (R210) -/

theorem endTick_writes (s : State) : Writes s (endTick s) := by
  rcases endTick_cases s with ⟨c, stage, t0, -, e⟩ | ⟨-, e⟩ <;> rw [e]
  · exact writes_quiet rfl rfl rfl

theorem roamMove_writes (s : State) : Writes s (roamMove s) := by
  unfold roamMove
  split
  · have hdone : Writes s { roamStep s with inTick := false } := (roamStep_writes s).tail (.quiet rfl rfl rfl)
    exact hdone.trans (endTick_writes _)
  · exact (roamStep_writes s).tail (.quiet rfl rfl rfl)

theorem roamAndSleep_writes (s : State) : Writes s (roamAndSleep s) := by
  rcases roamAndSleep_cases s with ⟨-, e⟩ | ⟨-, -, e⟩ | ⟨-, -, e⟩ <;> rw [e]
  · exact writes_quiet rfl rfl rfl
  · exact endTick_writes s

theorem readChar_writes (s : State) : Writes s (readChar s) := by
  rcases readChar_cases s with ⟨-, e⟩ | ⟨ch, rest, -, e⟩ <;> rw [e]
  · have htaken : Writes s { s with rxq := rest } := writes_quiet rfl rfl rfl
    exact htaken.trans (tAccept_writes ch _)

theorem tickBody_writes (s : State) : Writes s (tickBody s) := by
  unfold tickBody
  split
  · exact (sfFrame_writes s).trans (endTick_writes _)
  · exact (sfFrame_writes s).trans (endTick_writes _)
  · exact (readChar_writes s).trans (roamAndSleep_writes _)

theorem cuTick_writes (s : State) : Writes s (cuTick s) := by
  rcases cuTick_cases s with ⟨-, e⟩ | ⟨-, -, e⟩ | ⟨-, -, e⟩ <;> rw [e]
  · exact roamMove_writes s
  · have hready : Writes s { s with cuPh := .ready } := writes_quiet rfl rfl rfl
    exact hready.trans (tickBody_writes _)

/-! ### Every operation -/

/-- A meaning that always goes on answers what its writes leave. -/
theorem writes_of_next {s t u : State} (h : onBuild s (.next u) = .next t) (hw : Writes s u) : Writes s t := by
  obtain ⟨-, rfl⟩ := onBuild_next_iff.1 h
  exact hw

/-- MD.FIRE goes on where it is not busy (R157). -/
theorem execMdFire_writes {s t : State} (h : execMdFire s = .next t) : Writes s t := by
  obtain ⟨-, h⟩ := onBuild_next h
  split at h
  · cases h
  · cases h
    exact fire_writes s

/-- Every operation is a sequence of writes, but the reset and the captures of an edge. -/
theorem exec_writes {i : Instr} {s t : State} (h : exec i s = .next t) :
    Writes s t ∨ i = .rst ∨ ∃ k, i = .ptSample k ∨ i = .ptRise k ∨ i = .ptFall k := by
  cases i with
  | ptSample k => exact .inr (.inr ⟨k, .inl rfl⟩)
  | ptRise k => exact .inr (.inr ⟨k, .inr (.inl rfl)⟩)
  | ptFall k => exact .inr (.inr ⟨k, .inr (.inr rfl)⟩)
  | rst => exact .inr (.inl rfl)
  | laStop p tm => exact .inl (writes_of_next h (raise_writes s _))
  | laGun p tm => exact .inl (writes_of_next h (raise_writes s _))
  | laLeft p tm => exact .inl (writes_of_next h ((raise_writes s .ok).trans (pulseBegin_writes _ _ _)))
  | laRight p tm => exact .inl (writes_of_next h ((raise_writes s .ok).trans (pulseBegin_writes _ _ _)))
  | laUnknown cmd p tm => exact .inl (writes_of_next h (raise_writes s _))
  | laBadframe cmd p tm => exact .inl (writes_of_next h (raise_writes s _))
  | lbBadframe cmd units tm => exact .inl (writes_of_next h (raise_writes s _))
  | lbStopall units => exact .inl (writes_of_next h ((raise_writes s .ok).trans (stopAll_writes _)))
  | lbGun units => exact .inl (writes_of_next h ((raise_writes s .ok).tail (.gun _)))
  | lbSetl units => exact .inl (writes_of_next h ((raise_writes s .ok).trans (setVel_writes _ _ _)))
  | lbSetr units => exact .inl (writes_of_next h ((raise_writes s .ok).trans (setVel_writes _ _ _)))
  | lbUnknown cmd units => exact .inl (writes_of_next h (raise_writes s _))
  | tW => exact .inl (writes_of_next h (motion_writes s _ _ _ _))
  | tS => exact .inl (writes_of_next h (motion_writes s _ _ _ _))
  | tA => exact .inl (writes_of_next h (motion_writes s _ _ _ _))
  | tD => exact .inl (writes_of_next h (motion_writes s _ _ _ _))
  | tF => exact .inl (writes_of_next h (tF_writes s))
  | tR => exact .inl (writes_of_next h (tR_writes s))
  | tQ => exact .inl (writes_of_next h (stopCharacter_writes s))
  | tOther ch => exact .inl (writes_of_next h (stopCharacter_writes s))
  | sfFrame => exact .inl (writes_of_next h (sfFrame_writes s))
  | dispatchA f => exact .inl (writes_of_next h (dispatchA_writes f s))
  | dispatchB f => exact .inl (writes_of_next h (dispatchB_writes f s))
  | ptTick => exact .inl (writes_of_next h (writes_quiet rfl rfl rfl))
  | ptTrigall => exact .inl (writes_of_next h (ptTrigall_writes s))
  | ptSnapshot => exact .inl (writes_of_next h (ptSnapshot_writes s))
  | mdPulse c dir => exact .inl (writes_of_next h (mdPulse_writes s c dir))
  | mdHold c => exact .inl (writes_of_next h (hold_writes s c))
  | mdRun c dir divsel => exact .inl (writes_of_next h (run_writes s c dir divsel))
  | mdSetvel c v => exact .inl (writes_of_next h (setVel_writes s c v))
  | mdStopall => exact .inl (writes_of_next h (stopAll_writes s))
  | mdFire => exact .inl (execMdFire_writes h)
  | mdFireEnd => exact .inl (writes_of_next h (mdFireEnd_writes s))
  | mdPgStep c => exact .inl (writes_of_next h (mdPgStep_writes s c))
  | mdGunset level => exact .inl (writes_of_next h (.single (.gun level)))
  | rmDecide r => exact .inl (writes_of_next h (writes_quiet rfl rfl rfl))
  | cuTick => exact .inl (writes_of_next h (cuTick_writes s))
  | tAccept ch => exact .inl (writes_of_next h (tAccept_writes ch s))
  | cuRoamstep => exact .inl (writes_of_next h (roamStep_writes s))
  | applySteer cmd => exact .inl (writes_of_next h (applySteer_writes cmd s))
  | envRxpush b => exact .inl (writes_of_next h (rxPush_writes s b))
  | envEcho k level => exact .inl (writes_of_next h (writes_quiet rfl rfl rfl))

end Sys2Proof.Machine

/-! ## The output trace (R20, R21) -/

namespace Sys2Proof.Machine

/-! ### Reading a trace back -/

theorem levelsAfter_snoc (levels : Pin → Bool) (tr : List Emit) (e : Emit) :
    levelsAfter levels (tr ++ [e]) = levelsWith (levelsAfter levels tr) e := by
  simp [levelsAfter]

theorem onlyChanges_snoc (levels : Pin → Bool) (tr : List Emit) (e : Emit) :
    OnlyChanges levels (tr ++ [e]) ↔ OnlyChanges levels tr ∧ levelsAfter levels tr e.pin ≠ e.level := by
  induction tr generalizing levels with
  | nil => simp [OnlyChanges, levelsAfter]
  | cons e' tr ih => simp [OnlyChanges, ih, levelsAfter, and_assoc]

/-- An event at the level the port has changes nothing. -/
theorem levelsWith_same {levels : Pin → Bool} {e : Emit} (h : levels e.pin = e.level) : levelsWith levels e = levels := by
  funext p
  unfold levelsWith
  split
  · next hp => rw [hp, h]
  · rfl

/-! ### The port levels after a write -/

/-- Writing a motor channel sets the levels of its three ports and no other. -/
theorem portLevel_setMotor (s : State) (c : Channel) (m : Motor) :
    (s.setMotor c m).portLevel =
      levelsWith (levelsWith (levelsWith s.portLevel ⟨.mEn c, enPin s.cfg m.en⟩) ⟨.mDir c, m.dir⟩)
        ⟨.mStep c, m.step⟩ := by
  funext p
  cases p with
  | trig i => rfl
  | gun => rfl
  | mEn d => cases c <;> cases d <;> rfl
  | mDir d => cases c <;> cases d <;> rfl
  | mStep d => cases c <;> cases d <;> rfl

theorem portLevel_setEn (s : State) (c : Channel) (v : Bool) :
    (s.setEn c v).portLevel = levelsWith s.portLevel ⟨.mEn c, enPin s.cfg v⟩ := by
  have hm := portLevel_setMotor s c { s.motor c with en := v }
  rwa [levelsWith_same (e := ⟨.mStep c, _⟩) rfl, levelsWith_same (e := ⟨.mDir c, _⟩) rfl] at hm

theorem portLevel_setDir (s : State) (c : Channel) (v : Bool) :
    (s.setDir c v).portLevel = levelsWith s.portLevel ⟨.mDir c, v⟩ := by
  have hm := portLevel_setMotor s c { s.motor c with dir := v }
  rwa [levelsWith_same (e := ⟨.mStep c, _⟩) rfl, levelsWith_same (e := ⟨.mEn c, _⟩) rfl] at hm

theorem portLevel_setStep (s : State) (c : Channel) (v : Bool) :
    (s.setStep c v).portLevel = levelsWith s.portLevel ⟨.mStep c, v⟩ := by
  have hm := portLevel_setMotor s c { s.motor c with step := v }
  rwa [levelsWith_same (e := ⟨.mEn c, _⟩) rfl, levelsWith_same (e := ⟨.mDir c, _⟩) rfl] at hm

/-- Fields of a motor channel that drive no port leave every level. -/
theorem portLevel_setMotor_silent {s : State} {c : Channel} {m : Motor} (hen : m.en = (s.motor c).en)
    (hdir : m.dir = (s.motor c).dir) (hstep : m.step = (s.motor c).step) : (s.setMotor c m).portLevel = s.portLevel := by
  rw [portLevel_setMotor, hen, hdir, hstep, levelsWith_same (e := ⟨.mEn c, _⟩) rfl,
    levelsWith_same (e := ⟨.mDir c, _⟩) rfl, levelsWith_same (e := ⟨.mStep c, _⟩) rfl]

theorem portLevel_setGun (s : State) (v : Bool) :
    (s.setGun v).portLevel = levelsWith s.portLevel ⟨.gun, v⟩ := by
  funext p
  cases p <;> rfl

theorem portLevel_setTrig (s : State) (k : Us) (v : Bool) :
    (s.setTrig k v).portLevel = levelsWith s.portLevel ⟨.trig k, v⟩ := by
  funext p
  cases p with
  | trig i => simp [State.portLevel, levelsWith, Vector.getElem_set, Fin.ext_iff, eq_comm]
  | mEn d => rfl
  | mDir d => rfl
  | mStep d => rfl
  | gun => rfl

theorem enPin_inj (cfg : Config) (a b : Bool) : enPin cfg a = enPin cfg b ↔ a = b := by
  cases a <;> cases b <;> simp [enPin]

/-! ### The trace stays exact -/

/-- A write of registers that drive no port. -/
theorem TraceExact.silent {s t : State} (h : TraceExact s) (hcfg : t.cfg = s.cfg) (htrace : t.trace = s.trace)
    (hport : t.portLevel = s.portLevel) : TraceExact t := by
  rwa [TraceExact, hcfg, htrace, hport]

theorem TraceExact.samePorts {s t : State} (h : TraceExact s) (hst : SamePorts s t) : TraceExact t := by
  rw [hst]
  exact h

/-- A write of a register that drives port `pin`: `changed` records an event exactly where the level changes. -/
theorem TraceExact.driven {s t : State} (h : TraceExact s) {pin : Pin} {old new level : Bool} (hcfg : t.cfg = s.cfg)
    (htrace : t.trace = s.trace ++ changed pin old new level) (hold : s.portLevel pin = level ↔ old = new)
    (hport : t.portLevel = levelsWith s.portLevel ⟨pin, level⟩) : TraceExact t := by
  by_cases he : old = new
  · refine h.silent hcfg ?_ ?_
    · simp [htrace, changed, he]
    · rw [hport, levelsWith_same (hold.2 he)]
  · obtain ⟨honly, hlevels⟩ := h
    have hevents : t.trace = s.trace ++ [⟨pin, level⟩] := by
      rw [htrace, changed, beq_false_of_ne he, cond_false]
    rw [TraceExact, hcfg, hevents, onlyChanges_snoc, levelsAfter_snoc, hport, funext hlevels]
    exact ⟨⟨honly, fun hl => he (hold.1 hl)⟩, fun _ => rfl⟩

theorem Write.traceExact {s t : State} (w : Write s t) (h : TraceExact s) : TraceExact t := by
  cases w with
  | en c v => exact h.driven rfl rfl (enPin_inj s.cfg _ v) (portLevel_setEn s c v)
  | dir c v => exact h.driven rfl rfl Iff.rfl (portLevel_setDir s c v)
  | step c v => exact h.driven rfl rfl Iff.rfl (portLevel_setStep s c v)
  | gun v => exact h.driven rfl rfl Iff.rfl (portLevel_setGun s v)
  | trig k v => exact h.driven rfl rfl Iff.rfl (portLevel_setTrig s k v)
  | motor c m hen hdir hstep => exact h.silent rfl rfl (portLevel_setMotor_silent hen hdir hstep)
  | quiet hst _ _ => exact h.samePorts hst

theorem Writes.traceExact {s t : State} (w : Writes s t) (h : TraceExact s) : TraceExact t := by
  induction w with
  | refl => exact h
  | tail _ w ih => exact w.traceExact ih

theorem ptSample_samePorts (s : State) (k : Us) : SamePorts s (ptSample k s) := by
  rcases ptSample_cases s k with hq | ⟨h2, hq⟩ | ⟨h2, hq⟩
  · rw [ptSample_quiet hq]
    rfl
  · rw [ptSample_rise h2 hq]
    rfl
  · rw [ptSample_fall h2 hq]
    rfl

/-- After a reset the trace is empty and every port is at its reset level (R271). -/
theorem afterReset_traceExact (cfg : Config) (ports : Ports) (n : Nat) (inputs : List Ports) (schedule : List Move)
    (slot : Slot) : TraceExact (State.afterReset cfg ports n inputs schedule slot) := by
  refine ⟨trivial, fun p => ?_⟩
  cases p with
  | trig i => simp [State.afterReset, State.portLevel, resetLevel, levelsAfter]
  | mEn c => cases c <;> rfl
  | mDir c => cases c <;> rfl
  | mStep c => cases c <;> rfl
  | gun => rfl

/-- Every operation keeps the trace exact: its writes do, a capture drives no port, and a reset starts the trace again. -/
theorem exec_traceExact {i : Instr} {s t : State} (hexec : exec i s = .next t) (h : TraceExact s) : TraceExact t := by
  rcases exec_writes hexec with w | rfl | ⟨k, rfl | rfl | rfl⟩
  · exact w.traceExact h
  · obtain ⟨-, rfl⟩ := onBuild_next_iff.1 hexec
    exact afterReset_traceExact _ _ _ _ _ _
  · obtain ⟨-, rfl⟩ := onBuild_next_iff.1 hexec
    exact h.samePorts (ptSample_samePorts s k)
  · obtain ⟨-, rfl⟩ := onBuild_next_iff.1 hexec
    exact h.samePorts rfl
  · obtain ⟨-, rfl⟩ := onBuild_next_iff.1 hexec
    exact h.samePorts rfl

theorem countTicks_samePorts (s : State) : SamePorts s { countTicks s with slot := .rx } := by
  rw [countTicks_spec]
  rfl

/-- Settles O53: the cases of a step; an operation keeps the trace exact, and what stands around it drives no port. -/
theorem stepKeepsTraceExact : Obligations.StepKeepsTraceExact := by
  intro s t h hstep
  obtain ⟨-, hcase⟩ := step_cases hstep
  have hedge : TraceExact (atEdge s) := h.samePorts rfl
  cases hcase with
  | moved m r hr hexec => exact exec_traceExact hexec (h.samePorts hr.samePorts)
  | reading hin hexec => exact exec_traceExact hexec h
  | resetAtEdge hslot hrst hexec => exact exec_traceExact hexec hedge
  | released hslot hrst hwas e =>
    have hsync : TraceExact (atEdge s).loadSync := hedge.samePorts rfl
    rw [e]
    exact hsync.samePorts (countTicks_samePorts _)
  | edge hslot hrst hwas e =>
    rw [e]
    exact hedge.samePorts (countTicks_samePorts _)
  | idle e =>
    rw [e]
    exact h.samePorts (leaveSlot_same s).samePorts

end Sys2Proof.Machine

/-! ## The capture registers (R27, R28) -/

namespace Sys2Proof.Machine

/-- Where a write at `j` shows in a reading at `k`, it was a write at `k`. -/
theorem index_eq_of_set_ne {v : Readings} {j k : Us} {x : Nat} (h : (v.set j x)[k] ≠ v[k]) : j = k := by
  by_contra hjk
  refine h ?_
  simp [Fin.val_ne_of_ne hjk]

/-- A sample of channel `j` writes `LET[k]` only with a rising edge, and `LRT[k]` only with a falling one, both of its own
channel (R181). -/
theorem ptSample_captures (s : State) (j k : Us) :
    ((ptSample j s).letT[k] ≠ s.letT[k] → j = k ∧ s.sync2[k] = true ∧ s.echoQ[k] = false) ∧
    ((ptSample j s).lrt[k] ≠ s.lrt[k] → j = k ∧ s.sync2[k] = false ∧ s.echoQ[k] = true) := by
  rcases ptSample_cases s j with hq | ⟨h2, hq⟩ | ⟨h2, hq⟩
  · rw [ptSample_quiet hq]
    exact ⟨fun h => absurd rfl h, fun h => absurd rfl h⟩
  · rw [ptSample_rise h2 hq]
    refine ⟨fun h => ?_, fun h => absurd rfl h⟩
    obtain rfl := index_eq_of_set_ne h
    exact ⟨rfl, h2, hq⟩
  · rw [ptSample_fall h2 hq]
    refine ⟨fun h => absurd rfl h, fun h => ?_⟩
    obtain rfl := index_eq_of_set_ne h
    exact ⟨rfl, h2, hq⟩

/-- Settles O32: an operation that is a sequence of writes reaches neither register; the reset and the captures are the ones
left. -/
theorem captureRegistersHaveOneWriter : Obligations.CaptureRegistersHaveOneWriter := by
  intro i s t k hexec
  rcases exec_writes hexec with w | rfl | ⟨j, rfl | rfl | rfl⟩
  · obtain ⟨hlet, hlrt⟩ := w.captures
    rw [hlet, hlrt]
    exact ⟨fun h => absurd rfl h, fun h => absurd rfl h⟩
  · exact ⟨fun _ => .inr (.inr rfl), fun _ => .inr (.inr rfl)⟩
  · obtain ⟨-, rfl⟩ := onBuild_next_iff.1 hexec
    obtain ⟨hlet, hlrt⟩ := ptSample_captures s j k
    refine ⟨fun h => ?_, fun h => ?_⟩
    · obtain ⟨rfl, hedge⟩ := hlet h
      exact .inr (.inl ⟨rfl, hedge⟩)
    · obtain ⟨rfl, hedge⟩ := hlrt h
      exact .inr (.inl ⟨rfl, hedge⟩)
  · obtain ⟨-, rfl⟩ := onBuild_next_iff.1 hexec
    refine ⟨fun h => ?_, fun h => absurd rfl h⟩
    obtain rfl := index_eq_of_set_ne h
    exact .inl rfl
  · obtain ⟨-, rfl⟩ := onBuild_next_iff.1 hexec
    refine ⟨fun h => absurd rfl h, fun h => ?_⟩
    obtain rfl := index_eq_of_set_ne h
    exact .inl rfl

end Sys2Proof.Machine

/-! ## Reset (R50, R270, R271) -/

namespace Sys2Proof.Machine

/-- Settles O54: `State.reset` and what RST leaves are both states `State.afterReset` gives. -/
theorem resetIsSafe : Obligations.ResetIsSafe := by
  refine ⟨afterReset_invariant _ _ _ _ _ _, afterReset_traceExact _ _ _ _ _ _, fun s t hexec => ?_⟩
  obtain ⟨-, rfl⟩ := onBuild_next_iff.1 hexec
  exact ⟨afterReset_invariant _ _ _ _ _ _, afterReset_traceExact _ _ _ _ _ _, rfl⟩

theorem enReset_eq (p : Profile) : p.enReset = decide (p = .layoutA) := by
  cases p <;> rfl

/-- A channel after reset is the reset value of its motor (R32, R38, R50). -/
theorem motor_resetClock (s : State) (c : Channel) :
    s.resetClock.motor c = Motor.reset (decide (s.cfg.profile = .layoutA)) s.resetClock.ts := by
  rw [← enReset_eq]
  cases c <;> rfl

/-- The enable pins after reset: both at `EN_HOLD_LEVEL`, but driven in profile A (R33, R48). -/
theorem enPin_resetClock (s : State) (c : Channel) :
    s.resetClock.portLevel (.mEn c) = if s.cfg.profile = .layoutA then !s.cfg.enHoldLevel else s.cfg.enHoldLevel := by
  change enPin s.cfg (s.resetClock.motor c).en = _
  rw [motor_resetClock]
  by_cases h : s.cfg.profile = .layoutA <;> simp [Motor.reset, enPin, h]

/-- `CTRL` after reset: `STEER` at None, and every other field at code 0 (R41, R50). -/
theorem ctrlReg_resetClock (s : State) : s.resetClock.ctrlReg = 0x000E := by
  change 0x00#8 ++ Result.none.code ++ BitVec.ofBool false ++ Steer.none.code ++ Mode.manual.code = 0x000E#16
  decide

/-- Settles O46: the registers of each channel, the motors by their reset value, and the rest as `State.afterReset` lists it. -/
theorem resetLeavesTableValues : Obligations.ResetLeavesTableValues := by
  intro s hs
  refine ⟨s.resetClock, onBuild_admitted hs _, fun i => ?_, rfl, fun c => ?_, ?_⟩
  · simp [State.resetClock, State.afterReset]
  · rw [enPin_resetClock, motor_resetClock]
    exact ⟨rfl, rfl, rfl, rfl, rfl, rfl, rfl, rfl, rfl⟩
  · exact ⟨rfl, rfl, rfl, rfl, rfl, rfl, rfl, rfl, rfl, rfl, ctrlReg_resetClock s, rfl, rfl⟩

end Sys2Proof.Machine

/-! ## The packed views (R25, R32, R39 to R41, R46) -/

namespace Sys2Proof.Machine

/-- Joining two words puts the second below the first. -/
theorem toNat_append_eq {n m : Nat} (x : BitVec n) (y : BitVec m) : (x ++ y).toNat = y.toNat + 2 ^ m * x.toNat := by
  rw [BitVec.toNat_append, ← Nat.shiftLeft_add_eq_or_of_lt y.isLt, Nat.shiftLeft_eq]
  ring

theorem packed_toNat (m : Motor) : m.packed.toNat =
    m.en.toNat + 2 * m.dir.toNat + 4 * m.step.toNat + 8 * m.run.toNat + 16 * m.divsel.toNat := by
  simp only [Motor.packed, toNat_append_eq, BitVec.toNat_ofBool, BitVec.toNat_zero]
  omega

theorem actReg_toNat (s : State) : s.actReg.toNat = s.gun.toNat + 2 * s.fireBusy.toNat := by
  simp only [State.actReg, toNat_append_eq, BitVec.toNat_ofBool, BitVec.toNat_zero]
  omega

theorem rxstatReg_toNat (s : State) : s.rxstatReg.toNat = s.rxOvf.toNat := by
  simp only [State.rxstatReg, toNat_append_eq, BitVec.toNat_ofBool, BitVec.toNat_zero]
  omega

theorem ctrlReg_toNat (s : State) : s.ctrlReg.toNat = s.mode.code.toNat + 2 * s.steer.code.toNat +
    16 * s.lastValid.toNat + 32 * s.lastResult.code.toNat + 256 * s.lastChar.toNat := by
  simp only [State.ctrlReg, toNat_append_eq, BitVec.toNat_ofBool]
  omega

theorem packLevels_toNat (v : Levels) : (packLevels v).toNat =
    v[0].toNat + 2 * v[1].toNat + 4 * v[2].toNat + 8 * v[3].toNat + 16 * v[4].toNat := by
  simp only [packLevels, toNat_append_eq, BitVec.toNat_ofBool]
  omega

/-- Settles O48: the numbers of the packed words, then the code tables and the register numbers as they are written down. -/
theorem packedViewsHoldTheirFields : Obligations.PackedViewsHoldTheirFields := by
  intro s
  have hmode : Mode.manual.code = 0 ∧ Mode.roam.code = 1 := ⟨rfl, rfl⟩
  have hsteer : Steer.stop.code = 0 ∧ Steer.forward.code = 1 ∧ Steer.left.code = 2 ∧ Steer.right.code = 3 ∧
      Steer.reverse.code = 4 ∧ Steer.none.code = 7 := ⟨rfl, rfl, rfl, rfl, rfl, rfl⟩
  have hresult : Result.none.code = 0 ∧ Result.ok.code = 1 ∧ Result.invalidFraming.code = 2 ∧
      Result.unknownCommand.code = 3 ∧ Result.reentrant.code = 4 ∧ Result.debounced.code = 5 ∧ Result.stub.code = 6 :=
    ⟨rfl, rfl, rfl, rfl, rfl, rfl, rfl⟩
  exact ⟨packed_toNat, actReg_toNat s, rxstatReg_toNat s, ctrlReg_toNat s, hmode, hsteer, hresult, packLevels_toNat,
    rfl, rfl, rfl, rfl, rfl, rfl, rfl⟩

end Sys2Proof.Machine

/-! ## The agents other than CU (R52, R226) -/

namespace Sys2Proof.Machine

/-- What O58 says of one operation of an agent other than CU. -/
def OwnRegistersOnly (i : Instr) (s t : State) : Prop :=
  (∀ d, (t.motor d).en = (s.motor d).en ∧ (t.motor d).dir = (s.motor d).dir ∧ (t.motor d).run = (s.motor d).run ∧
    (t.motor d).divsel = (s.motor d).divsel ∧ (i ≠ .mdPgStep d → (t.motor d).step = (s.motor d).step)) ∧
  (i ≠ .mdFireEnd → t.gun = s.gun ∧ t.fireBusy = s.fireBusy ∧ t.cuPh = s.cuPh) ∧
  t.mode = s.mode ∧ t.steer = s.steer ∧ t.lastValid = s.lastValid ∧ t.lastChar = s.lastChar ∧
  t.lastResult = s.lastResult ∧ ∃ tail, t.rxq = s.rxq ++ tail

/-- `t` has the actuator and control registers of `s`: the motors, the gun and its flag, and what CU writes but the FIFO. -/
def SameDriven (s t : State) : Prop :=
  t = { t with
    left := s.left, right := s.right, gun := s.gun, fireBusy := s.fireBusy, cuPh := s.cuPh
    mode := s.mode, steer := s.steer, lastValid := s.lastValid, lastChar := s.lastChar, lastResult := s.lastResult }

theorem fifo_kept {s t : State} (h : t.rxq = s.rxq) : ∃ tail, t.rxq = s.rxq ++ tail :=
  ⟨[], by rw [h, List.append_nil]⟩

/-- An operation that writes no actuator and no control register, and takes no byte. -/
theorem ownRegistersOnly_of_same {s t : State} (i : Instr) (h : SameDriven s t) (hq : ∃ tail, t.rxq = s.rxq ++ tail) :
    OwnRegistersOnly i s t := by
  rw [SameDriven] at h
  refine ⟨fun d => ?_, fun _ => ?_, ?_, ?_, ?_, ?_, ?_, hq⟩ <;> rw [h]
  · cases d <;> exact ⟨rfl, rfl, rfl, rfl, fun _ => rfl⟩
  · exact ⟨rfl, rfl, rfl⟩

/-- A half-step of the pulse generator writes the step output and its hidden state, and records the event (R38, R159). -/
theorem ownRegistersOnly_halfStep {s t : State} {c : Channel} {step : Bool} {ph : PgPhase} {last : Nat}
    (ht : t = { s.setMotor c { s.motor c with step := step, pgPh := ph, lastStepT := last } with trace := t.trace }) :
    OwnRegistersOnly (.mdPgStep c) s t := by
  have hmotor (d : Channel) :
      t.motor d = if d = c then { s.motor c with step := step, pgPh := ph, lastStepT := last } else s.motor d := by
    rw [ht]
    exact State.motor_setMotor s c d _
  refine ⟨fun d => ?_, fun _ => ?_, ?_⟩
  · rw [hmotor]
    split
    · next h =>
      rw [h]
      exact ⟨rfl, rfl, rfl, rfl, fun hne => absurd rfl hne⟩
    · exact ⟨rfl, rfl, rfl, rfl, fun _ => rfl⟩
  · rw [ht]
    exact ⟨rfl, rfl, rfl⟩
  · rw [ht]
    exact ⟨rfl, rfl, rfl, rfl, rfl, fifo_kept rfl⟩

theorem mdPgStep_ownRegistersOnly (s : State) (c : Channel) : OwnRegistersOnly (.mdPgStep c) s (mdPgStep c s) := by
  rcases mdPgStep_cases s c with ⟨-, -, e⟩ | ⟨t0, -, -, e⟩ | ⟨-, -, e⟩ <;> rw [e]
  · rw [pgLow_spec]
    exact ownRegistersOnly_halfStep rfl
  · rw [pgHigh_spec]
    exact ownRegistersOnly_halfStep rfl
  · exact ownRegistersOnly_of_same _ rfl (fifo_kept rfl)

theorem mdFireEnd_ownRegistersOnly (s : State) : OwnRegistersOnly .mdFireEnd s (mdFireEnd s) := by
  rcases mdFireEnd_cases s with ⟨-, e⟩ | ⟨-, e⟩ <;> rw [e]
  · exact ⟨fun d => ⟨rfl, rfl, rfl, rfl, fun _ => rfl⟩, fun hne => absurd rfl hne, rfl, rfl, rfl, rfl, rfl,
      fifo_kept rfl⟩
  · exact ownRegistersOnly_of_same _ rfl (fifo_kept rfl)

theorem ptSample_ownRegistersOnly (s : State) (k : Us) : OwnRegistersOnly (.ptSample k) s (ptSample k s) := by
  rcases ptSample_cases s k with hq | ⟨h2, hq⟩ | ⟨h2, hq⟩
  · rw [ptSample_quiet hq]
    exact ownRegistersOnly_of_same _ rfl (fifo_kept rfl)
  · rw [ptSample_rise h2 hq]
    exact ownRegistersOnly_of_same _ rfl (fifo_kept rfl)
  · rw [ptSample_fall h2 hq]
    exact ownRegistersOnly_of_same _ rfl (fifo_kept rfl)

theorem ptTrigall_ownRegistersOnly (s : State) : OwnRegistersOnly .ptTrigall s (ptTrigall s) := by
  rcases ptTrigall_cases s with ⟨-, e⟩ | ⟨k, t0, -, -, e⟩ | e <;> rw [e]
  · exact ownRegistersOnly_of_same _ rfl (fifo_kept rfl)
  · rcases trigAdvance_spec s k with ⟨-, e⟩ | ⟨j, -, e⟩ <;> rw [e]
    · exact ownRegistersOnly_of_same _ rfl (fifo_kept rfl)
    · exact ownRegistersOnly_of_same _ rfl (fifo_kept rfl)
  · exact ownRegistersOnly_of_same _ rfl (fifo_kept rfl)

theorem rxPush_ownRegistersOnly (s : State) (b : Byte) : OwnRegistersOnly (.envRxpush b) s (s.rxPush b) := by
  rcases rxPush_spec s b with ⟨-, e⟩ | ⟨-, e⟩ <;> rw [e]
  · exact ownRegistersOnly_of_same _ rfl ⟨_, rfl⟩
  · exact ownRegistersOnly_of_same _ rfl (fifo_kept rfl)

/-- Settles O58: each operation of an agent other than CU writes its own registers only. -/
theorem onlyControlUnitDrivesActuators : Obligations.OnlyControlUnitDrivesActuators := by
  intro s t i k c b level hi hexec
  change OwnRegistersOnly i s t
  rcases hi with rfl | rfl | rfl | rfl | rfl | rfl | rfl <;> obtain ⟨-, rfl⟩ := onBuild_next_iff.1 hexec
  · exact ownRegistersOnly_of_same _ rfl (fifo_kept rfl)
  · exact ptSample_ownRegistersOnly s k
  · exact ptTrigall_ownRegistersOnly s
  · exact mdPgStep_ownRegistersOnly s c
  · exact mdFireEnd_ownRegistersOnly s
  · exact rxPush_ownRegistersOnly s b
  · exact ownRegistersOnly_of_same _ rfl (fifo_kept rfl)

end Sys2Proof.Machine

/-! ## Layout B units and the velocity they stand for (R73, R94) -/

namespace Sys2Proof.Machine

/-- The units of a Layout B frame are its two middle bytes, joined in the build's byte order. -/
theorem fbUnits_frameB (cfg : Config) (b0 b1 b2 b3 : Byte) :
    fbUnits cfg (frameB b0 b1 b2 b3) = if cfg.unitsLE then b2 ++ b1 else b1 ++ b2 := by
  rw [fbUnits, fbU0_frameB, fbU1_frameB, assembleUnits]

theorem fbUnits_frameB_toNat (cfg : Config) (b0 b1 b2 b3 : Byte) :
    (fbUnits cfg (frameB b0 b1 b2 b3)).toNat =
      if cfg.unitsLE then b2.toNat * 256 + b1.toNat else b1.toNat * 256 + b2.toNat := by
  rw [fbUnits_frameB]
  split
  · rw [toNat_append_eq b2 b1]
    omega
  · rw [toNat_append_eq b1 b2]
    omega

theorem velocity_eq (u : Units16) : velocity u = (u.toNat : Int) - 32768 := rfl

/-- A single bit, inverted and read as a sign, is its own number less one. -/
theorem toInt_invert_bit : ∀ h : BitVec 1, (h ^^^ 1).toInt = (h.toNat : Int) - 1 := by decide

/-- Inverting the top bit of `units` gives the velocity in two's complement: `units` is its top bit over the low fifteen, and only
that bit's part of the value changes (R94). -/
theorem invertTopBit_toInt (u : Units16) : (u ^^^ 0x8000).toInt = velocity u := by
  obtain ⟨h, l, rfl⟩ : ∃ (h : BitVec 1) (l : BitVec 15), u = h ++ l :=
    ⟨u.extractLsb' 15 1, u.extractLsb' 0 15, (BitVec.extractLsb'_append_extractLsb' (w := 1) (len := 15)).symm⟩
  have hinv : (h ++ l) ^^^ (0x8000 : Units16) = (h ^^^ 1) ++ l := by
    rw [show (0x8000 : Units16) = (1 : BitVec 1) ++ (0 : BitVec 15) from rfl, BitVec.xor_append]
    simp
  have hneg : ((h ^^^ 1) ++ l).toInt = 2 ^ 15 * (h ^^^ 1).toInt + l.toNat := BitVec.toInt_append
  rw [hinv, hneg, toInt_invert_bit, velocity_eq, toNat_append_eq h l]
  omega

theorem velocity_range (u : Units16) : -32768 ≤ velocity u ∧ velocity u ≤ 32767 := by
  have hlt := u.isLt
  rw [velocity_eq]
  omega

/-- Every integer of the range is the velocity of the units `v + 32768` (R94). -/
theorem velocity_ofNat {v : Int} (hlo : -32768 ≤ v) (hhi : v ≤ 32767) :
    velocity (BitVec.ofNat 16 (v + 32768).toNat) = v := by
  rw [velocity_eq, BitVec.toNat_ofNat]
  omega

/-- Settles O4: the units are a join of two bytes, and the velocity is the units less a constant that moves their range
onto the signed one. -/
theorem unitsAndVelocityAreExact : Obligations.UnitsAndVelocityAreExact := by
  refine ⟨fbUnits_frameB_toNat, fun u => ?_, fun v hlo hhi => ⟨_, velocity_ofNat hlo hhi⟩⟩
  obtain ⟨hlo, hhi⟩ := velocity_range u
  exact ⟨velocity_eq u, hlo, hhi, invertTopBit_toInt u⟩

end Sys2Proof.Machine

/-! ## The receive FIFO takes a byte or loses it (R71) -/

namespace Sys2Proof.Machine

/-- Settles O44: the two cases of `rxPush_spec` exclude each other by the FIFO's length. -/
theorem pushAppendsOrOverflows : Obligations.PushAppendsOrOverflows := by
  intro s b hadm
  have hexec : exec (.envRxpush b) s = .next (s.rxPush b) := onBuild_admitted hadm _
  rw [hexec]
  obtain ⟨hroom, hpush⟩ | ⟨hfull, hpush⟩ := rxPush_spec s b <;> rw [hpush]
  · exact ⟨fun _ => rfl, fun hfull => absurd hroom (not_lt.mpr hfull)⟩
  · exact ⟨fun hroom => absurd hroom (not_lt.mpr hfull), fun _ => rfl⟩

end Sys2Proof.Machine

/-! ## The decoder and the encoder undo each other (R90 to R99, R104) -/

namespace Sys2Proof

/-! ### The decoder on the bytes of a command unit -/

theorem decode_layoutA {cfg : Config} (h : cfg.profile = .layoutA) (b0 b1 b2 : Byte) (rest : List Byte) :
    decode cfg (b0 :: b1 :: b2 :: rest) = .ok (decodeA cfg (frameA b0 b1 b2), rest) := by
  simp [decode, h]

theorem decode_layoutB {cfg : Config} (h : cfg.profile = .layoutB) (b0 b1 b2 b3 : Byte) (rest : List Byte) :
    decode cfg (b0 :: b1 :: b2 :: b3 :: rest) = .ok (decodeB cfg (frameB b0 b1 b2 b3), rest) := by
  simp [decode, h]

theorem decode_bytesB {cfg : Config} (h : cfg.profile = .layoutB) (cmd : Byte) (u : Units16) (t : Byte) (rest : List Byte) :
    decode cfg (bytesB cfg cmd u t ++ rest) =
      .ok (decodeB cfg (frameB cmd (unitsByte0 cfg.unitsLE u) (unitsByte1 cfg.unitsLE u) t), rest) :=
  decode_layoutB h _ _ _ _ rest

theorem decode_teleop {cfg : Config} (h : cfg.profile = .teleop) (ch : Byte) (rest : List Byte) :
    decode cfg (ch :: rest) = .ok (decodeT ch, rest) := by
  simp [decode, h]

/-- The opcode map of profile A on the three bytes: the terminator first, where the build checks it, then `cmd` (R97). -/
theorem decodeA_frameA (cfg : Config) (cmd p t : Byte) :
    decodeA cfg (frameA cmd p t) =
      if termOk cfg t = false then .laBadframe cmd p t
      else if cmd = 0x00 then .laStop p t
      else if cmd = 0x01 then .laGun p t
      else if cmd = 0x02 then .laLeft p t
      else if cmd = 0x03 then .laRight p t
      else .laUnknown cmd p t := by
  simp [decodeA, termOk, bne]

/-- The opcode map of profile B on `cmd`, the two bytes of `units` and the terminator (R98). -/
theorem decodeB_frameB (cfg : Config) (cmd u0 u1 t : Byte) :
    decodeB cfg (frameB cmd u0 u1 t) =
      if t ≠ term then .lbBadframe cmd (assembleUnits cfg.unitsLE u0 u1) t
      else if cmd = 0x00 then .lbStopall (assembleUnits cfg.unitsLE u0 u1)
      else if cmd = 0x01 then .lbGun (assembleUnits cfg.unitsLE u0 u1)
      else if cmd = 0x02 then .lbSetl (assembleUnits cfg.unitsLE u0 u1)
      else if cmd = 0x03 then .lbSetr (assembleUnits cfg.unitsLE u0 u1)
      else .lbUnknown cmd (assembleUnits cfg.unitsLE u0 u1) := by
  simp [decodeB, fbUnits]

/-! ### The rows for all remaining values -/

/-- A command id of 4 or more is one no row of the framed profiles names (R97, R98). -/
theorem four_le_toNat_iff (cmd : Byte) :
    4 ≤ cmd.toNat ↔ cmd ≠ 0x00 ∧ cmd ≠ 0x01 ∧ cmd ≠ 0x02 ∧ cmd ≠ 0x03 := by
  bv_omega

/-- The fallback row of profile T is for the characters no other row names (R96, R99). -/
theorem tOther_wf_iff (cfg : Config) (ch : Byte) : (Instr.tOther ch).wf cfg = true ↔
    ch ≠ 0x77 ∧ ch ≠ 0x73 ∧ ch ≠ 0x61 ∧ ch ≠ 0x64 ∧ ch ≠ 0x66 ∧ ch ≠ 0x72 ∧ ch ≠ 0x71 := by
  simp [Instr.wf, namedChars]

/-! ### Every operation decodes from its own command unit -/

theorem decode_encode_layoutA {cfg : Config} {i : Instr} (h : cfg.profile = .layoutA) (hwf : i.wf cfg = true)
    (hp : i.profile = some .layoutA) (rest : List Byte) : decode cfg (encode cfg i ++ rest) = .ok (i, rest) := by
  cases i with
  | laStop p t | laGun p t | laLeft p t | laRight p t =>
    have hterm : termOk cfg t = true := hwf
    simp [encode, decode_layoutA h, decodeA_frameA, hterm]
  | laUnknown cmd p t =>
    obtain ⟨hcmd, hterm⟩ : 4 ≤ cmd.toNat ∧ termOk cfg t = true := by simpa [Instr.wf] using hwf
    obtain ⟨h0, h1, h2, h3⟩ := (four_le_toNat_iff cmd).1 hcmd
    change decode cfg (cmd :: p :: t :: rest) = _
    rw [decode_layoutA h, decodeA_frameA, if_neg (by simp [hterm]), if_neg h0, if_neg h1, if_neg h2, if_neg h3]
  | laBadframe cmd p t =>
    have hterm : termOk cfg t = false := by simpa [Instr.wf] using hwf
    simp [encode, decode_layoutA h, decodeA_frameA, hterm]
  | _ => cases hp

theorem decode_encode_layoutB {cfg : Config} {i : Instr} (h : cfg.profile = .layoutB) (hwf : i.wf cfg = true)
    (hp : i.profile = some .layoutB) (rest : List Byte) : decode cfg (encode cfg i ++ rest) = .ok (i, rest) := by
  cases i with
  | lbBadframe cmd u t =>
    have hterm : t ≠ term := by simpa [Instr.wf] using hwf
    rw [encode, decode_bytesB h, decodeB_frameB, if_pos hterm, assembleUnits_bytes]
  | lbStopall u | lbGun u | lbSetl u | lbSetr u =>
    rw [encode, decode_bytesB h, decodeB_frameB, assembleUnits_bytes]
    rfl
  | lbUnknown cmd u =>
    have hcmd : 4 ≤ cmd.toNat := by simpa [Instr.wf] using hwf
    obtain ⟨h0, h1, h2, h3⟩ := (four_le_toNat_iff cmd).1 hcmd
    rw [encode, decode_bytesB h, decodeB_frameB, assembleUnits_bytes, if_neg (not_not.2 rfl), if_neg h0, if_neg h1, if_neg h2,
      if_neg h3]
  | _ => cases hp

theorem decode_encode_teleop {cfg : Config} {i : Instr} (h : cfg.profile = .teleop) (hwf : i.wf cfg = true)
    (hp : i.profile = some .teleop) (rest : List Byte) : decode cfg (encode cfg i ++ rest) = .ok (i, rest) := by
  cases i with
  | tW | tS | tA | tD | tF | tR | tQ => exact decode_teleop h _ rest
  | tOther ch =>
    obtain ⟨hw, hs, ha, hd, hf, hr, hq⟩ := (tOther_wf_iff cfg ch).1 hwf
    change decode cfg (ch :: rest) = _
    rw [decode_teleop h, decodeT, if_neg hw, if_neg hs, if_neg ha, if_neg hd, if_neg hf, if_neg hr, if_neg hq]
  | _ => cases hp

/-- Settles O1: an operation of a profile is one of that profile's rows, and the decoder's tests, taken on the row's own bytes,
select the row. -/
theorem decodeInvertsEncode : Obligations.DecodeInvertsEncode := by
  intro cfg i rest hwf hp
  cases h : cfg.profile <;> rw [h] at hp
  case layoutA => exact decode_encode_layoutA h hwf hp rest
  case layoutB => exact decode_encode_layoutB h hwf hp rest
  case teleop => exact decode_encode_teleop h hwf hp rest

/-! ### Every command unit has exactly one row (R104) -/

/-- The opcode maps of the build's profile admit the operation as the row of these bytes (R97 to R99). -/
def AdmitsRow (cfg : Config) (bytes : List Byte) (i : Instr) : Prop :=
  i.wf cfg = true ∧ i.profile = some cfg.profile ∧ encode cfg i = bytes

/-- At most one row: an operation the opcode maps admit for some bytes is what the decoder makes of them. -/
theorem AdmitsRow.decode_eq {cfg : Config} {bytes : List Byte} {i : Instr} (hrow : AdmitsRow cfg bytes i) :
    decode cfg bytes = .ok (i, []) := by
  obtain ⟨hwf, hp, rfl⟩ := hrow
  simpa using decodeInvertsEncode cfg i [] hwf hp

theorem AdmitsRow.unique {cfg : Config} {bytes : List Byte} {i j : Instr} (hi : AdmitsRow cfg bytes i)
    (hj : AdmitsRow cfg bytes j) : j = i := by
  have heq := hj.decode_eq.symm.trans hi.decode_eq
  injection heq with heq
  exact congrArg Prod.fst heq

theorem decodeA_admitsRow {cfg : Config} (h : cfg.profile = .layoutA) (cmd p t : Byte) :
    AdmitsRow cfg [cmd, p, t] (decodeA cfg (frameA cmd p t)) := by
  rw [decodeA_frameA, AdmitsRow, h]
  by_cases hterm : termOk cfg t = true
  · rw [if_neg (by simp [hterm])]
    split_ifs with h0 h1 h2 h3
    · exact ⟨hterm, rfl, by rw [h0]; rfl⟩
    · exact ⟨hterm, rfl, by rw [h1]; rfl⟩
    · exact ⟨hterm, rfl, by rw [h2]; rfl⟩
    · exact ⟨hterm, rfl, by rw [h3]; rfl⟩
    · exact ⟨by simp [Instr.wf, hterm, (four_le_toNat_iff cmd).2 ⟨h0, h1, h2, h3⟩], rfl, rfl⟩
  · rw [if_pos (by simpa using hterm)]
    exact ⟨by simpa [Instr.wf] using hterm, rfl, rfl⟩

/-- The encoder gives frame bytes 1 and 2 back from the `units` they carry (R94). -/
theorem bytesB_assembleUnits (cfg : Config) (cmd u0 u1 t : Byte) :
    bytesB cfg cmd (assembleUnits cfg.unitsLE u0 u1) t = [cmd, u0, u1, t] := by
  simp [bytesB]

theorem decodeB_admitsRow {cfg : Config} (h : cfg.profile = .layoutB) (cmd u0 u1 t : Byte) :
    AdmitsRow cfg [cmd, u0, u1, t] (decodeB cfg (frameB cmd u0 u1 t)) := by
  rw [decodeB_frameB, AdmitsRow, h, ← bytesB_assembleUnits cfg]
  by_cases hterm : t = term
  · rw [if_neg (not_not.2 hterm), hterm]
    split_ifs with h0 h1 h2 h3
    · exact ⟨rfl, rfl, by rw [h0]; rfl⟩
    · exact ⟨rfl, rfl, by rw [h1]; rfl⟩
    · exact ⟨rfl, rfl, by rw [h2]; rfl⟩
    · exact ⟨rfl, rfl, by rw [h3]; rfl⟩
    · exact ⟨by simp [Instr.wf, (four_le_toNat_iff cmd).2 ⟨h0, h1, h2, h3⟩], rfl, rfl⟩
  · rw [if_pos hterm]
    exact ⟨by simpa [Instr.wf] using hterm, rfl, rfl⟩

theorem decodeT_admitsRow {cfg : Config} (h : cfg.profile = .teleop) (ch : Byte) :
    AdmitsRow cfg [ch] (decodeT ch) := by
  rw [decodeT, AdmitsRow, h]
  split_ifs with hw hs ha hd hf hr hq
  · exact ⟨rfl, rfl, by rw [hw]; rfl⟩
  · exact ⟨rfl, rfl, by rw [hs]; rfl⟩
  · exact ⟨rfl, rfl, by rw [ha]; rfl⟩
  · exact ⟨rfl, rfl, by rw [hd]; rfl⟩
  · exact ⟨rfl, rfl, by rw [hf]; rfl⟩
  · exact ⟨rfl, rfl, by rw [hr]; rfl⟩
  · exact ⟨rfl, rfl, by rw [hq]; rfl⟩
  · exact ⟨(tOther_wf_iff cfg ch).2 ⟨hw, hs, ha, hd, hf, hr, hq⟩, rfl, rfl⟩

/-- At least one row: the decoder's answer on `N_FRAME` bytes is an operation the opcode maps admit for them. -/
theorem exists_admitsRow {cfg : Config} {bytes : List Byte} (hlen : bytes.length = cfg.profile.nFrame) :
    ∃ i, AdmitsRow cfg bytes i := by
  cases h : cfg.profile <;> rw [h] at hlen
  case layoutA =>
    obtain ⟨cmd, p, t, rfl⟩ := List.length_eq_three.1 hlen
    exact ⟨_, decodeA_admitsRow h cmd p t⟩
  case layoutB =>
    obtain ⟨cmd, u0, u1, t, rfl⟩ := List.length_eq_four.1 hlen
    exact ⟨_, decodeB_admitsRow h cmd u0 u1 t⟩
  case teleop =>
    obtain ⟨ch, rfl⟩ := List.length_eq_one_iff.1 hlen
    exact ⟨_, decodeT_admitsRow h ch⟩

/-- Settles O2: the decoder's answer is a row of the bytes, and by O1 every row of the bytes is the decoder's answer. -/
theorem everyFrameHasExactlyOneRow : Obligations.EveryFrameHasExactlyOneRow := by
  intro cfg bytes hlen
  obtain ⟨i, hrow⟩ := exists_admitsRow hlen
  exact ⟨i, hrow.decode_eq, fun j => ⟨hrow.unique, fun hji => hji ▸ hrow⟩⟩

/-- Settles O3: each unit is the encoding of its row, and the encoding decodes to the row. -/
theorem sampleFramesDecode : Obligations.SampleFramesDecode :=
  ⟨decodeInvertsEncode _ (.laLeft 0x00 0x00) [] rfl rfl, decodeInvertsEncode _ (.laRight 0x05 0x0A) [] rfl rfl,
    decodeInvertsEncode _ (.lbSetl 0x8005) [] rfl rfl, decodeInvertsEncode _ (.lbBadframe 0x01 0x0001 0x0D) [] rfl rfl,
    decodeInvertsEncode _ .tR [] rfl rfl⟩

end Sys2Proof

/-! ## The echo ports (R100, R260) -/

namespace Sys2Proof.Machine

/-- Settles O45: the answer is the state with one place of the port's levels set. -/
theorem echoChangesOnlyItsLine : Obligations.EchoChangesOnlyItsLine := by
  intro s i level hadm
  have hexec : exec (.envEcho i level) s = .next { s with ports := { s.ports with echo := s.ports.echo.set i level } } :=
    onBuild_admitted hadm _
  refine ⟨_, hexec, Vector.getElem_set_self _, fun j hj => ?_, rfl⟩
  exact Vector.getElem_set_ne i.isLt j.isLt fun hij => hj (Fin.ext hij.symm)

end Sys2Proof.Machine

/-! ## The framed commands as whole next states (R124 to R138) -/

namespace Sys2Proof.Machine

/-- Settles O12: each row answers the state its result is recorded in. -/
theorem recordingRowsWriteOnlyTheResult : Obligations.RecordingRowsWriteOnlyTheResult := by
  intro s cmd p tm u hadm
  exact ⟨onBuild_admitted hadm _, onBuild_admitted hadm _, onBuild_admitted hadm _, onBuild_admitted hadm _,
    onBuild_admitted hadm _, onBuild_admitted hadm _⟩

theorem dirOfParam_eq (p : Byte) : dirOfParam p = decide (p = 0) := rfl

/-- LA.LEFT and LA.RIGHT, of either channel: OK recorded and the first stage of MD.PULSE, as one update (R130, R131). -/
theorem okPulseBegin_spec (s : State) (c : Channel) (p : Byte) :
    (s.raise .ok).pulseBegin c (dirOfParam p) =
      { s.setMotor c { s.motor c with dir := decide (p = 0), settleT := s.ts } with
        lastResult := .ok, cuPh := .pulse c .settle s.ts
        trace := s.trace ++ onChange (.mDir c) (s.motor c).dir (decide (p = 0)) } := by
  rw [pulseBegin_spec, dirOfParam_eq]
  rfl

/-- Settles O13: `okPulseBegin_spec` on each channel. -/
theorem layoutAStepBeginsPulse : Obligations.LayoutAStepBeginsPulse := by
  intro s p tm hadm
  have hleft : exec (.laLeft p tm) s = .next ((s.raise .ok).pulseBegin .left (dirOfParam p)) := onBuild_admitted hadm _
  have hright : exec (.laRight p tm) s = .next ((s.raise .ok).pulseBegin .right (dirOfParam p)) := onBuild_admitted hadm _
  rw [hleft, hright, okPulseBegin_spec, okPulseBegin_spec]
  exact ⟨rfl, rfl⟩

theorem velocity_eq_zero_iff (u : Units16) : velocity u = 0 ↔ u = 0x8000 := by
  have hzero : (0x8000 : Units16).toNat = 32768 := rfl
  rw [velocity_eq, ← BitVec.toNat_inj, hzero]
  omega

theorem velocity_pos_iff (u : Units16) : 0 < velocity u ↔ 0x8000 < u.toNat := by
  rw [velocity_eq]
  omega

/-- LB.SETL and LB.SETR, of either channel, at the zero velocity (R136, R137). -/
theorem okSetVel_zero (s : State) (c : Channel) {u : Units16} (hu : u = 0x8000) :
    (s.raise .ok).setVel c (velocity u) =
      { s.setMotor c (s.motor c).held with lastResult := .ok, trace := s.trace ++ holdEvents s c } := by
  rw [setVel_spec, if_pos ((velocity_eq_zero_iff u).2 hu), hold_spec]
  rfl

/-- LB.SETL and LB.SETR, of either channel, at any other velocity (R136, R137). -/
theorem okSetVel_nonzero (s : State) (c : Channel) {u : Units16} (hu : u ≠ 0x8000) :
    (s.raise .ok).setVel c (velocity u) =
      { s.setMotor c ((s.motor c).running (decide (0x8000 < u.toNat)) false s.ts) with
        lastResult := .ok, trace := s.trace ++ runEvents s c (decide (0x8000 < u.toNat)) } := by
  rw [setVel_spec, if_neg (mt (velocity_eq_zero_iff u).1 hu), run_spec, decide_eq_decide.2 (velocity_pos_iff u)]
  rfl

/-- Settles O14: the row of each channel is MD.SETVEL of `units - 32768`, whose zero and sign are those of `units` against
0x8000. -/
theorem layoutBSetsChannelVelocity : Obligations.LayoutBSetsChannelVelocity := by
  intro s u c hadm i
  have hexec : exec i s = .next ((s.raise .ok).setVel c (velocity u)) := by
    cases c
    · exact onBuild_admitted hadm _
    · exact onBuild_admitted hadm _
  rw [hexec]
  exact ⟨fun hu => by rw [okSetVel_zero s c hu], fun hu => by rw [okSetVel_nonzero s c hu]⟩

/-- Settles O15: both rows are a write of `GUN`, LB.GUN with OK recorded before it. -/
theorem gunCommandsSetALevel : Obligations.GunCommandsSetALevel := by
  intro s u level hadm
  exact ⟨onBuild_admitted hadm _, onBuild_admitted hadm _⟩

/-- Settles O16: each row is MD.STOPALL on the state its result, and for a character `STEER`, is recorded in. -/
theorem stopCommandsHoldBothChannels : Obligations.StopCommandsHoldBothChannels := by
  intro s u ch hadm
  have hstop (t : State) : onBuild s (.next t.stopAll) = .next (stoppedAll t) := by
    rw [onBuild_admitted hadm, stopAll_spec]
  exact ⟨hstop s, hstop (s.raise .ok), hstop { s.raise .ok with steer := .stop },
    hstop { s.raise .ok with steer := .stop }⟩

end Sys2Proof.Machine

/-! ## The dispatchers run the row the decoder gives (R97, R98, R122, R123) -/

namespace Sys2Proof.Machine

/-- The decoder's row of a Layout A frame does what DISPATCH_A does: both make the same tests in the same order. -/
theorem exec_decodeA (f : FrameA) (s : State) : exec (decodeA s.cfg f) s = exec (.dispatchA f) s := by
  change _ = onBuild s (.next (dispatchA f s))
  unfold decodeA dispatchA
  dsimp only
  split_ifs <;> rfl

/-- The decoder's row of a Layout B frame does what DISPATCH_B does. -/
theorem exec_decodeB (f : FrameB) (s : State) : exec (decodeB s.cfg f) s = exec (.dispatchB f) s := by
  change _ = onBuild s (.next (dispatchB f s))
  unfold decodeB dispatchB
  dsimp only
  split_ifs <;> rfl

/-! ### The fields of a frame word as numbers (R92, R93, R94) -/

theorem extractByte_eq {n : Nat} (f : BitVec n) (k : Nat) :
    (f.extractLsb' k 8 : Byte) = BitVec.ofNat 8 (f.toNat / 2 ^ k) := by
  rw [BitVec.extractLsb', Nat.shiftRight_eq_div_pow]

theorem faCmd_eq (f : FrameA) : faCmd f = BitVec.ofNat 8 (f.toNat / 65536) := extractByte_eq f 16

theorem faParam_eq (f : FrameA) : faParam f = BitVec.ofNat 8 (f.toNat / 256) := extractByte_eq f 8

theorem faTerm_eq (f : FrameA) : faTerm f = BitVec.ofNat 8 f.toNat := by
  rw [faTerm, extractByte_eq, pow_zero, Nat.div_one]

theorem fbCmd_eq (f : FrameB) : fbCmd f = BitVec.ofNat 8 (f.toNat / 16777216) := extractByte_eq f 24

theorem fbTerm_eq (f : FrameB) : fbTerm f = BitVec.ofNat 8 f.toNat := by
  rw [fbTerm, extractByte_eq, pow_zero, Nat.div_one]

theorem fbU0_toNat (f : FrameB) : (fbU0 f).toNat = f.toNat / 65536 % 256 := by
  rw [fbU0, extractByte_eq, BitVec.toNat_ofNat]
  rfl

theorem fbU1_toNat (f : FrameB) : (fbU1 f).toNat = f.toNat / 256 % 256 := by
  rw [fbU1, extractByte_eq, BitVec.toNat_ofNat]
  rfl

/-- Joining two bytes, the first above the second. -/
theorem append_eq_ofNat (hi lo : Byte) : (hi ++ lo : Units16) = BitVec.ofNat 16 (hi.toNat * 256 + lo.toNat) := by
  apply BitVec.eq_of_toNat_eq
  rw [toNat_append_eq hi lo, BitVec.toNat_ofNat]
  omega

theorem fbUnits_eq (cfg : Config) (f : FrameB) :
    fbUnits cfg f = BitVec.ofNat 16 (if cfg.unitsLE then f.toNat / 256 % 256 * 256 + f.toNat / 65536 % 256
      else f.toNat / 65536 % 256 * 256 + f.toNat / 256 % 256) := by
  rw [fbUnits, assembleUnits, append_eq_ofNat, append_eq_ofNat, fbU0_toNat, fbU1_toNat]
  split <;> rfl

/-- Settles O6: DISPATCH_A answers as the decoder's row does, and the decoder's tests are on the fields of `F`. -/
theorem dispatchASelectsByCommand : Obligations.DispatchASelectsByCommand := by
  intro s f hadm cmd p tm
  have hexec : exec (.dispatchA f) s = .next (dispatchA f s) := onBuild_admitted hadm _
  refine ⟨_, hexec, ?_⟩
  have hrow := (exec_decodeA f s).trans hexec
  simp only [decodeA, faCmd_eq, faParam_eq, faTerm_eq, Bool.and_eq_true, bne_iff_ne] at hrow
  split_ifs at hrow ⊢ <;> exact hrow

/-- Settles O7: DISPATCH_B answers as the decoder's row does, and the decoder's tests are on the fields of `F`. -/
theorem dispatchBTestsTerminatorFirst : Obligations.DispatchBTestsTerminatorFirst := by
  intro s f hadm cmd b1 b2 units tm
  have hexec : exec (.dispatchB f) s = .next (dispatchB f s) := onBuild_admitted hadm _
  refine ⟨_, hexec, ?_⟩
  have hrow := (exec_decodeB f s).trans hexec
  have hunits : fbUnits s.cfg f = units := fbUnits_eq s.cfg f
  simp only [decodeB, fbCmd_eq, hunits, fbTerm_eq] at hrow
  split_ifs at hrow ⊢ <;> exact hrow

end Sys2Proof.Machine

/-! ## The framer takes one frame or nothing (R120) -/

namespace Sys2Proof

/-- Where the decoder answers in profile A, it took the three bytes at the head. -/
theorem decode_ok_layoutA {cfg : Config} (h : cfg.profile = .layoutA) {bytes rest : List Byte} {i : Instr}
    (hd : decode cfg bytes = .ok (i, rest)) :
    ∃ b0 b1 b2, bytes = b0 :: b1 :: b2 :: rest ∧ i = decodeA cfg (frameA b0 b1 b2) := by
  match bytes with
  | b0 :: b1 :: b2 :: tail =>
    rw [decode_layoutA h] at hd
    cases hd
    exact ⟨b0, b1, b2, rfl, rfl⟩
  | [] | [_] | [_, _] => simp [decode, h] at hd

/-- Where the decoder answers in profile B, it took the four bytes at the head. -/
theorem decode_ok_layoutB {cfg : Config} (h : cfg.profile = .layoutB) {bytes rest : List Byte} {i : Instr}
    (hd : decode cfg bytes = .ok (i, rest)) :
    ∃ b0 b1 b2 b3, bytes = b0 :: b1 :: b2 :: b3 :: rest ∧ i = decodeB cfg (frameB b0 b1 b2 b3) := by
  match bytes with
  | b0 :: b1 :: b2 :: b3 :: tail =>
    rw [decode_layoutB h] at hd
    cases hd
    exact ⟨b0, b1, b2, b3, rfl, rfl⟩
  | [] | [_] | [_, _] | [_, _, _] => simp [decode, h] at hd

/-- A stream with a whole command unit decodes to the row of that unit and leaves the bytes after it. -/
theorem decode_take_drop {cfg : Config} {bytes : List Byte} (hlen : cfg.profile.nFrame ≤ bytes.length) :
    ∃ i, decode cfg (bytes.take cfg.profile.nFrame) = .ok (i, []) ∧
      decode cfg bytes = .ok (i, bytes.drop cfg.profile.nFrame) := by
  obtain ⟨i, hrow⟩ := exists_admitsRow (List.length_take_of_le hlen)
  refine ⟨i, hrow.decode_eq, ?_⟩
  obtain ⟨hwf, hp, henc⟩ := hrow
  have hd := decodeInvertsEncode cfg i (bytes.drop cfg.profile.nFrame) hwf hp
  rwa [henc, List.take_append_drop] at hd

end Sys2Proof

namespace Sys2Proof.Machine

theorem sfFrame_layoutA {s : State} (h : s.cfg.profile = .layoutA) {b0 b1 b2 : Byte} {rest : List Byte}
    (hq : s.rxq = b0 :: b1 :: b2 :: rest) : sfFrame s = dispatchA (frameA b0 b1 b2) { s with rxq := rest } := by
  simp [sfFrame, h, State.rxPeek, State.rxDrop, hq]

theorem sfFrame_layoutB {s : State} (h : s.cfg.profile = .layoutB) {b0 b1 b2 b3 : Byte} {rest : List Byte}
    (hq : s.rxq = b0 :: b1 :: b2 :: b3 :: rest) :
    sfFrame s = dispatchB (frameB b0 b1 b2 b3) { s with rxq := rest } := by
  simp [sfFrame, h, State.rxPeek, State.rxDrop, hq]

/-- With fewer than `N_FRAME` bytes one of the peeks finds no byte, and the framer changes nothing (R120). -/
theorem sfFrame_short {s : State} (hlen : s.rxq.length < s.cfg.profile.nFrame) : sfFrame s = s := by
  unfold sfFrame
  split
  · next h =>
    have hpeek : s.rxPeek 2 = none := List.getElem?_eq_none (by rw [h] at hlen; exact Nat.le_of_lt_succ hlen)
    simp [hpeek]
  · next h =>
    have hpeek : s.rxPeek 3 = none := List.getElem?_eq_none (by rw [h] at hlen; exact Nat.le_of_lt_succ hlen)
    simp [hpeek]
  · rfl

/-- In a framed profile the framer runs the operation the stream decodes to, on the state with its frame consumed (R120,
R121). -/
theorem exec_decoded {s : State} (hadm : Admitted s) (hp : s.cfg.profile ≠ .teleop) {i : Instr} {rest : List Byte}
    (hd : decode s.cfg s.rxq = .ok (i, rest)) : exec i { s with rxq := rest } = .next (sfFrame s) := by
  cases h : s.cfg.profile with
  | layoutA =>
    obtain ⟨b0, b1, b2, hq, rfl⟩ := decode_ok_layoutA h hd
    rw [sfFrame_layoutA h hq]
    exact (exec_decodeA _ { s with rxq := rest }).trans (onBuild_admitted hadm _)
  | layoutB =>
    obtain ⟨b0, b1, b2, b3, hq, rfl⟩ := decode_ok_layoutB h hd
    rw [sfFrame_layoutB h hq]
    exact (exec_decodeB _ { s with rxq := rest }).trans (onBuild_admitted hadm _)
  | teleop => exact absurd h hp

/-- Settles O8: a short FIFO by `sfFrame_short`; a whole frame decodes the same alone and at the head of the FIFO, and
`exec_decoded` runs its row. -/
theorem framerTakesOneFrameOrNothing : Obligations.FramerTakesOneFrameOrNothing := by
  intro s hadm hp
  have hexec : exec .sfFrame s = .next (sfFrame s) := onBuild_admitted hadm _
  rw [hexec]
  refine ⟨fun hlen => by rw [sfFrame_short hlen], fun hlen => ?_⟩
  obtain ⟨i, hunit, hstream⟩ := decode_take_drop hlen
  exact ⟨i, sfFrame s, hunit, exec_decoded hadm hp hstream, rfl⟩

end Sys2Proof.Machine

/-! ## CU's turn in a framed profile (R120, R210) -/

namespace Sys2Proof.Machine

/-- With no schedule to follow, a step is a place of the clock. -/
theorem step_eq_slotTurn {s : State} (hadm : Admitted s) (h : s.cfg.timing = .timed ∨ s.schedule = []) :
    step s = slotTurn s := by
  rw [step, onBuild_admitted hadm, turn]
  split
  · next m rest htiming hsched => simp [htiming, hsched] at h
  · rfl
  · rfl

/-- CU's place of the clock, with CU ready: a control tick on the state whose next place is the edge (R249 item 8). -/
theorem slotTurn_cu_ready {s : State} (hadm : Admitted s) (hslot : s.slot = .cu) (hready : s.cuPh = .ready)
    (hin : s.inTick = false) : slotTurn s = .next (cuTick { s with slot := .edge }) := by
  have hinstr : moveInstr s .cu = .cuTick := by simp [moveInstr, cuInstr, hready]
  have hleave : leaveSlot s = { s with slot := .edge } := by simp [leaveSlot, hslot, Slot.next]
  have hturn : slotTurn s = exec (moveInstr s .cu) (leaveSlot s) := by simp [slotTurn, hin, hslot, slotMove]
  rw [hturn, hinstr, hleave]
  exact onBuild_admitted hadm _

/-- The body of a framed profile's tick (R210). -/
theorem tickBody_framed {s : State} (hp : s.cfg.profile ≠ .teleop) : tickBody s = endTick (sfFrame s) := by
  unfold tickBody
  split
  · rfl
  · rfl
  · next hT => exact absurd hT hp

/-- A tick that finds CU ready in a framed profile: one framer step, and the end of the tick (R210). -/
theorem cuTick_framed {s : State} (hp : s.cfg.profile ≠ .teleop) (hready : s.cuPh = .ready) (hin : s.inTick = false) :
    cuTick s = endTick (sfFrame s) := by
  have hself : { s with cuPh := .ready } = s := by rw [← hready]
  have hawake : cuAwake s = true := by simp [cuAwake, hready]
  rw [cuTick, if_neg (by simp [hin]), if_pos hawake, hself, tickBody_framed hp]

/-- A step in which a ready CU of a framed profile has its turn. -/
theorem step_framed_ready {s : State} (hadm : Admitted s) (hwho : s.cfg.timing = .timed ∨ s.schedule = [])
    (hslot : s.slot = .cu) (hp : s.cfg.profile ≠ .teleop) (hready : s.cuPh = .ready) (hin : s.inTick = false) :
    step s = .next (endTick (sfFrame { s with slot := .edge })) := by
  rw [step_eq_slotTurn hadm hwho, slotTurn_cu_ready hadm hslot hready hin,
    cuTick_framed (s := { s with slot := .edge }) hp hready hin]

/-- Settles O49: the framer step of CU's turn is the operation `exec_decoded` names, and `endTick` looks at the phase it leaves
CU in. -/
theorem stepRunsDecodedFrame : Obligations.StepRunsDecodedFrame := by
  intro s i rest hadm hslot hready hin hwho hp hd
  have hstep := step_framed_ready hadm hwho hslot hp hready hin
  refine ⟨_, exec_decoded (s := { s with slot := .edge }) hadm hp hd, hstep, fun ht => ?_, fun c stage t0 ht => ?_⟩
  · rw [hstep, endTick, ht]
  · rw [hstep, endTick, ht]

end Sys2Proof.Machine

/-! ## What a framed profile never writes (R139, R225) -/

namespace Sys2Proof.Machine

/-- The registers of R139, and with them the count of resets. -/
def State.modeRegs (s : State) : Mode × Steer × Bool × Byte × Nat :=
  (s.mode, s.steer, s.lastValid, s.lastChar, s.draws)

theorem SameBlock.modeRegs {s r : State} (h : SameBlock s r) : r.modeRegs = s.modeRegs := by
  rw [h]
  rfl

/-! ### The agents other than CU -/

theorem ptSample_modeRegs (s : State) (i : Us) : (ptSample i s).modeRegs = s.modeRegs := by
  rcases ptSample_cases s i with hq | ⟨h2, hq⟩ | ⟨h2, hq⟩
  · rw [ptSample_quiet hq]
    rfl
  · rw [ptSample_rise h2 hq]
    rfl
  · rw [ptSample_fall h2 hq]
    rfl

theorem trigAdvance_modeRegs (s : State) (k : Us) : (trigAdvance k s).modeRegs = s.modeRegs := by
  rcases trigAdvance_spec s k with ⟨-, e⟩ | ⟨j, -, e⟩ <;> rw [e] <;> rfl

theorem ptTrigall_modeRegs (s : State) : (ptTrigall s).modeRegs = s.modeRegs := by
  rcases ptTrigall_cases s with ⟨-, e⟩ | ⟨k, t0, -, -, e⟩ | e <;> rw [e]
  · rfl
  · exact trigAdvance_modeRegs s k

theorem mdPgStep_modeRegs (s : State) (c : Channel) : (mdPgStep c s).modeRegs = s.modeRegs := by
  rcases mdPgStep_cases s c with ⟨-, -, e⟩ | ⟨t0, -, -, e⟩ | ⟨-, -, e⟩ <;> rw [e] <;> rfl

theorem mdFireEnd_modeRegs (s : State) : (mdFireEnd s).modeRegs = s.modeRegs := by
  rcases mdFireEnd_cases s with ⟨-, e⟩ | ⟨-, e⟩ <;> rw [e]
  rfl

theorem rxPush_modeRegs (s : State) (b : Byte) : (s.rxPush b).modeRegs = s.modeRegs := by
  rcases rxPush_spec s b with ⟨-, e⟩ | ⟨-, e⟩ <;> rw [e] <;> rfl

/-! ### CU -/

theorem pulseBegin_modeRegs (s : State) (c : Channel) (dir : Bool) : (s.pulseBegin c dir).modeRegs = s.modeRegs := by
  rw [pulseBegin_spec]
  rfl

theorem mdPulse_modeRegs (s : State) (c : Channel) (dir : Bool) : (mdPulse c dir s).modeRegs = s.modeRegs := by
  unfold mdPulse
  split
  · next c' stage t0 hph =>
    rw [pulseNext_spec]
    cases stage <;> dsimp only <;> split <;> rfl
  · exact pulseBegin_modeRegs s c dir
  · exact pulseBegin_modeRegs s c dir
  · exact pulseBegin_modeRegs s c dir

theorem dispatchA_modeRegs (f : FrameA) (s : State) : (dispatchA f s).modeRegs = s.modeRegs := by
  rcases dispatchA_cases f s with ⟨r, e⟩ | ⟨c, dir, e⟩ <;> rw [e]
  · rfl
  · exact pulseBegin_modeRegs (s.raise .ok) c dir

theorem dispatchB_modeRegs (f : FrameB) (s : State) : (dispatchB f s).modeRegs = s.modeRegs := by
  rcases dispatchB_cases f s with ⟨r, e⟩ | e | ⟨v, e⟩ | ⟨c, v, e⟩ <;> rw [e]
  · rfl
  · rw [stopAll_spec]
    rfl
  · rfl
  · rw [setVel_spec, hold_spec, run_spec]
    split <;> rfl

theorem sfFrame_modeRegs (s : State) : (sfFrame s).modeRegs = s.modeRegs := by
  rcases sfFrame_cases s with e | ⟨-, f, e⟩ | ⟨-, f, e⟩ <;> rw [e]
  · exact dispatchA_modeRegs f (s.rxDrop 3)
  · exact dispatchB_modeRegs f (s.rxDrop 4)

theorem endTick_modeRegs (s : State) : (endTick s).modeRegs = s.modeRegs := by
  rcases endTick_cases s with ⟨c, stage, t0, -, e⟩ | ⟨-, e⟩ <;> rw [e]
  rfl

/-- A framed profile's tick, outside a roam step, is at most a framer step. -/
theorem cuTick_modeRegs {s : State} (hp : s.cfg.profile ≠ .teleop) (hin : s.inTick = false) :
    (cuTick s).modeRegs = s.modeRegs := by
  rcases cuTick_cases s with ⟨h, -⟩ | ⟨-, -, e⟩ | ⟨-, -, e⟩
  · rw [hin] at h
    cases h
  · rw [e, tickBody_framed (s := { s with cuPh := .ready }) hp, endTick_modeRegs, sfFrame_modeRegs]
    rfl
  · rw [e]

/-! ### A step -/

/-- The registers of R139 at their reset values, after `n` resets. -/
def resetModeRegs (n : Nat) : Mode × Steer × Bool × Byte × Nat := (.manual, .none, false, 0x00, n)

/-- A move, named in `s` and made in `r`, where a framed profile is in no roam step: only a reset writes the registers of R139. -/
theorem move_modeRegs {s r t : State} (hp : r.cfg.profile ≠ .teleop) (hin : r.inTick = false) (m : Move)
    (h : exec (moveInstr s m) r = .next t) : t.modeRegs = r.modeRegs ∨ t.modeRegs = resetModeRegs (r.draws + 1) := by
  cases m with
  | tick =>
    obtain ⟨-, rfl⟩ := onBuild_next_iff.1 h
    exact .inl rfl
  | sample i =>
    obtain ⟨-, rfl⟩ := onBuild_next_iff.1 h
    exact .inl (ptSample_modeRegs r i)
  | trig =>
    obtain ⟨-, rfl⟩ := onBuild_next_iff.1 h
    exact .inl (ptTrigall_modeRegs r)
  | cu =>
    change exec (cuInstr s) r = .next t at h
    rcases cuInstr_cases s with e | ⟨c, stage, t0, dir, -, e⟩ <;> rw [e] at h <;>
      obtain ⟨-, rfl⟩ := onBuild_next_iff.1 h
    · exact .inl (cuTick_modeRegs hp hin)
    · exact .inl (mdPulse_modeRegs r c dir)
  | pg c =>
    obtain ⟨-, rfl⟩ := onBuild_next_iff.1 h
    exact .inl (mdPgStep_modeRegs r c)
  | fireEnd =>
    obtain ⟨-, rfl⟩ := onBuild_next_iff.1 h
    exact .inl (mdFireEnd_modeRegs r)
  | rxPush b =>
    obtain ⟨-, rfl⟩ := onBuild_next_iff.1 h
    exact .inl (rxPush_modeRegs r b)
  | echo i level =>
    obtain ⟨-, rfl⟩ := onBuild_next_iff.1 h
    exact .inl rfl
  | reset =>
    obtain ⟨-, rfl⟩ := onBuild_next_iff.1 h
    exact .inr rfl

/-- A step of a framed profile in no roam step keeps the registers of R139, or is a reset. -/
theorem step_modeRegs {s t : State} (hp : s.cfg.profile ≠ .teleop) (hin : s.inTick = false) (hstep : step s = .next t) :
    t.modeRegs = s.modeRegs ∨ t.modeRegs = resetModeRegs (s.draws + 1) := by
  obtain ⟨-, hcase⟩ := step_cases hstep
  cases hcase with
  | moved m r hr hexec =>
    have hmove := move_modeRegs (r := r) (by rw [hr]; exact hp) (by rw [hr]; exact hin) m hexec
    have hdraws : r.draws = s.draws := by rw [hr]
    rwa [hr.modeRegs, hdraws] at hmove
  | reading hreading => simp [hin] at hreading
  | resetAtEdge hslot hrst hexec =>
    obtain ⟨-, rfl⟩ := onBuild_next_iff.1 hexec
    exact .inr rfl
  | released hslot hrst hwas e =>
    rw [e, countTicks_spec]
    exact .inl rfl
  | edge hslot hrst hwas e =>
    rw [e, countTicks_spec]
    exact .inl rfl
  | idle e =>
    rw [e]
    exact .inl (leaveSlot_same s).modeRegs

/-- Settles O56: `draws` tells the two cases of `step_modeRegs` apart. -/
theorem framedProfilesNeverRoam : Obligations.FramedProfilesNeverRoam := by
  intro s t hp hsnap hstep
  have hin : s.inTick = false := by
    by_contra hne
    obtain ⟨-, hT, -⟩ := hsnap.2 (by simpa using hne)
    exact hp hT
  rcases step_modeRegs hp hin hstep with h | h <;>
    simp only [State.modeRegs, resetModeRegs, Prod.mk.injEq] at h <;>
    obtain ⟨hmode, hsteer, hvalid, hchar, hdraws⟩ := h
  · exact ⟨fun _ => ⟨hmode, hsteer, hvalid, hchar⟩, fun hne => absurd hdraws hne⟩
  · exact ⟨fun hsame => by omega, fun _ => ⟨hmode, hsteer, hvalid, hchar⟩⟩

end Sys2Proof.Machine

/-! ## Single motor operations (R153 to R155, R157) -/

namespace Sys2Proof.Machine

theorem exec_mdHold {s : State} (hadm : Admitted s) (c : Channel) : exec (.mdHold c) s = .next (s.hold c) :=
  onBuild_admitted hadm _

theorem exec_mdRun {s : State} (hadm : Admitted s) (c : Channel) (dir divsel : Bool) :
    exec (.mdRun c dir divsel) s = .next (s.run c dir divsel) :=
  onBuild_admitted hadm _

theorem exec_mdSetvel {s : State} (hadm : Admitted s) (c : Channel) (v : Int) :
    exec (.mdSetvel c v) s = .next (s.setVel c v) :=
  onBuild_admitted hadm _

theorem exec_mdFire {s : State} (hadm : Admitted s) :
    exec .mdFire s = if s.fireBusy then .fault .fireWhileBusy else .next s.fire :=
  onBuild_admitted hadm _

/-- Settles O17: `hold_spec` and `run_spec` behind the build check. -/
theorem holdAndRunWriteOneChannel : Obligations.HoldAndRunWriteOneChannel := by
  intro s c dir divsel hadm
  rw [exec_mdHold hadm, exec_mdRun hadm, hold_spec, run_spec]
  exact ⟨rfl, rfl⟩

/-- Settles O18: the three signs of `v` are the branches of `setVel_spec`. -/
theorem setVelocityUsesOnlyTheSign : Obligations.SetVelocityUsesOnlyTheSign := by
  intro s c v hadm
  refine ⟨s.setVel c v, exec_mdSetvel hadm c v, fun hzero => ?_, fun hpos => ?_, fun hneg => ?_⟩
  · rw [exec_mdHold hadm, setVel_spec, if_pos hzero]
  · rw [exec_mdRun hadm, setVel_spec, if_neg hpos.ne', decide_eq_true hpos]
  · rw [exec_mdRun hadm, setVel_spec, if_neg hneg.ne, decide_eq_false hneg.not_gt]

/-- Settles O20: the flag selects between the fault and `fire_spec`. -/
theorem fireStartsOnce : Obligations.FireStartsOnce := by
  intro s hadm
  rw [exec_mdFire hadm]
  refine ⟨fun hfree => ?_, fun hbusy => ?_⟩
  · rw [hfree, fire_spec]
    rfl
  · rw [hbusy]
    rfl

theorem fireEndEnabled_iff (s : State) :
    fireEndEnabled s = true ↔ s.fireBusy = true ∧ s.passed s.fireT0 s.cfg.fireDuration = true :=
  Bool.and_eq_true_iff

/-- Settles O21: the two cases of MD.FIRE_END, told apart by its enabling condition. -/
theorem fireEndReleasesControl : Obligations.FireEndReleasesControl := by
  intro s hadm
  have hexec : exec .mdFireEnd s = .next (mdFireEnd s) := onBuild_admitted hadm _
  have henabled := fireEndEnabled_iff s
  rw [hexec]
  rcases mdFireEnd_cases s with ⟨hen, e⟩ | ⟨hen, e⟩ <;> rw [e]
  · obtain ⟨hbusy, hover⟩ := henabled.1 hen
    exact ⟨fun _ _ => rfl, fun hnot => by simp [hbusy, hover] at hnot⟩
  · exact ⟨fun hbusy hover => by simp [henabled.2 ⟨hbusy, hover⟩] at hen, fun _ => rfl⟩

end Sys2Proof.Machine

/-! ## The pulse generator's half-steps (R159, R161) -/

namespace Sys2Proof.Machine

theorem pgLowEnabled_iff (s : State) (c : Channel) :
    pgLowEnabled s c = true ↔ (s.motor c).run = true ∧ s.passed (s.motor c).settleT s.cfg.tSettle = true ∧
      s.passed (s.motor c).lastStepT (stepPeriod s c) = true := by
  rw [pgLowEnabled, Bool.and_eq_true, Bool.and_eq_true, and_assoc]

theorem pgHighEnabled_iff (s : State) (c : Channel) (t0 : Nat) :
    pgHighEnabled s c t0 = true ↔
      s.passed t0 s.cfg.tStepLow = true ∧ s.passed (s.motor c).settleT s.cfg.tSettle = true :=
  Bool.and_eq_true_iff

/-- With the step output at rest, a move of the generator is the low half-step or nothing. -/
theorem exec_mdPgStep_high {s : State} (hadm : Admitted s) {c : Channel} (hph : (s.motor c).pgPh = .high) :
    exec (.mdPgStep c) s = .next (if pgLowEnabled s c then pgLow c s else s) := by
  have hexec : exec (.mdPgStep c) s = .next (mdPgStep c s) := onBuild_admitted hadm _
  rw [hexec, mdPgStep, hph]

/-- Inside a step, a move of the generator is the high half-step or nothing. -/
theorem exec_mdPgStep_low {s : State} (hadm : Admitted s) {c : Channel} {t0 : Nat} (hph : (s.motor c).pgPh = .low t0) :
    exec (.mdPgStep c) s = .next (if pgHighEnabled s c t0 then pgHigh c s else s) := by
  have hexec : exec (.mdPgStep c) s = .next (mdPgStep c s) := onBuild_admitted hadm _
  rw [hexec, mdPgStep, hph]

/-- Settles O22: the phase says which half-step can come, its enabling condition whether it does. -/
theorem pulseGeneratorHalfSteps : Obligations.PulseGeneratorHalfSteps := by
  intro s c hadm m period
  refine ⟨fun hph => ⟨fun hen => ?_, fun hnot => ?_⟩, fun t0 hph => ⟨fun hen => ?_, fun hnot => ?_⟩⟩
  · rw [exec_mdPgStep_high hadm hph, if_pos ((pgLowEnabled_iff s c).2 hen), pgLow_spec]
    rfl
  · rw [exec_mdPgStep_high hadm hph, if_neg (mt (pgLowEnabled_iff s c).1 hnot)]
  · rw [exec_mdPgStep_low hadm hph, if_pos ((pgHighEnabled_iff s c t0).2 hen), pgHigh_spec]
    rfl
  · rw [exec_mdPgStep_low hadm hph, if_neg (mt (pgHighEnabled_iff s c t0).1 hnot)]

/-! ### What stops or drives a channel leaves the generator's step alone (R161) -/

/-- The build and, on both channels, the phase and the level of the pulse generator's step are those of `s`. -/
def KeepsStep (s t : State) : Prop :=
  t.cfg = s.cfg ∧ ∀ c, (t.motor c).pgPh = (s.motor c).pgPh ∧ (t.motor c).step = (s.motor c).step

/-- A write of one channel that keeps its own step keeps both. -/
theorem keepsStep_setMotor (s : State) {d : Channel} {m : Motor} (hph : m.pgPh = (s.motor d).pgPh)
    (hstep : m.step = (s.motor d).step) : KeepsStep s (s.setMotor d m) := by
  refine ⟨rfl, fun c => ?_⟩
  rw [State.motor_setMotor]
  split
  · next h =>
    rw [h]
    exact ⟨hph, hstep⟩
  · exact ⟨rfl, rfl⟩

theorem hold_keepsStep (s : State) (d : Channel) : KeepsStep s (s.hold d) := by
  rw [hold_spec]
  exact keepsStep_setMotor s rfl rfl

theorem run_keepsStep (s : State) (d : Channel) (dir divsel : Bool) : KeepsStep s (s.run d dir divsel) := by
  rw [run_spec]
  exact keepsStep_setMotor s rfl rfl

theorem setVel_keepsStep (s : State) (d : Channel) (v : Int) : KeepsStep s (s.setVel d v) := by
  rw [setVel_spec]
  split_ifs
  · exact hold_keepsStep s d
  · exact run_keepsStep s d _ _

theorem stopAll_keepsStep (s : State) : KeepsStep s s.stopAll := by
  rw [stopAll_spec]
  exact ⟨rfl, fun c => by cases c <;> exact ⟨rfl, rfl⟩⟩

theorem fire_keepsStep (s : State) : KeepsStep s s.fire := by
  rw [fire_spec]
  exact ⟨rfl, fun c => by cases c <;> exact ⟨rfl, rfl⟩⟩

/-- The operations of R161 run in an admitted build and keep every step of the pulse generators. -/
theorem exec_keepsStep {i : Instr} {s t : State} {d : Channel} {dir divsel : Bool} {v : Int}
    (hi : i = .mdHold d ∨ i = .mdRun d dir divsel ∨ i = .mdSetvel d v ∨ i = .mdStopall ∨ i = .mdFire)
    (h : exec i s = .next t) : Admitted s ∧ KeepsStep s t := by
  rcases hi with rfl | rfl | rfl | rfl | rfl
  · obtain ⟨hadm, rfl⟩ := onBuild_next_iff.1 h
    exact ⟨hadm, hold_keepsStep s d⟩
  · obtain ⟨hadm, rfl⟩ := onBuild_next_iff.1 h
    exact ⟨hadm, run_keepsStep s d dir divsel⟩
  · obtain ⟨hadm, rfl⟩ := onBuild_next_iff.1 h
    exact ⟨hadm, setVel_keepsStep s d v⟩
  · obtain ⟨hadm, rfl⟩ := onBuild_next_iff.1 h
    exact ⟨hadm, stopAll_keepsStep s⟩
  · obtain ⟨hadm, hfire⟩ := onBuild_next h
    split at hfire
    · cases hfire
    · cases hfire
      exact ⟨hadm, fire_keepsStep s⟩

/-- A step in its low phase completes with one rising edge once both waits are over, whether the channel runs or not. -/
theorem exec_mdPgStep_rises {s : State} (hadm : Admitted s) {c : Channel} {t0 : Nat} (hph : (s.motor c).pgPh = .low t0)
    (hlow : (s.motor c).step = false) (hover : s.passed t0 s.cfg.tStepLow = true)
    (hsettled : s.passed (s.motor c).settleT s.cfg.tSettle = true) :
    ∃ u, exec (.mdPgStep c) s = .next u ∧ (u.motor c).step = true ∧ u.trace = s.trace ++ [⟨.mStep c, true⟩] := by
  refine ⟨pgHigh c s, ?_, ?_, ?_⟩
  · rw [exec_mdPgStep_low hadm hph, if_pos ((pgHighEnabled_iff s c t0).2 ⟨hover, hsettled⟩)]
  · cases c <;> rfl
  · rw [pgHigh_spec, hlow]
    rfl

/-- Settles O23: the operation keeps the step (`exec_keepsStep`), and PG_HIGH does not test `RUN`. -/
theorem startedStepCompletes : Obligations.StartedStepCompletes := by
  intro s t c d dir divsel v t0 i hph hlow hi hexec
  obtain ⟨hadm, hcfg, hmotor⟩ := exec_keepsStep hi hexec
  obtain ⟨hphKept, hstepKept⟩ := hmotor c
  have hadm' : Admitted t := by rw [Admitted, hcfg, hadm]
  have hph' : (t.motor c).pgPh = .low t0 := hphKept.trans hph
  have hlow' : (t.motor c).step = false := hstepKept.trans hlow
  exact ⟨hph', hlow', exec_mdPgStep_rises hadm' hph' hlow'⟩

end Sys2Proof.Machine

/-! ## The stages of MD.PULSE (R152) -/

namespace Sys2Proof.Machine

theorem exec_mdPulse_begin {s : State} (hadm : Admitted s) (h : NotPulsing s) (c : Channel) (dir : Bool) :
    exec (.mdPulse c dir) s = .next (s.pulseBegin c dir) := by
  rw [← mdPulse_begin h]
  exact onBuild_admitted hadm _

/-- Inside a pulse, a run of MD.PULSE is that pulse's next stage, whatever its own operands are (log entry 32). -/
theorem exec_mdPulse_next {s : State} (hadm : Admitted s) {c : Channel} {stage : PulseStage} {t0 : Nat}
    (hph : s.cuPh = .pulse c stage t0) (d : Channel) (dir : Bool) :
    exec (.mdPulse d dir) s = .next (s.pulseNext c stage t0) := by
  rw [← mdPulse_next hph d dir]
  exact onBuild_admitted hadm _

/-- How long a stage of MD.PULSE waits. -/
def stageWait (cfg : Config) : PulseStage → Nat
  | .settle => cfg.tSettle
  | .low => cfg.tStepLow

/-- While a stage's wait runs, MD.PULSE does nothing. -/
theorem exec_mdPulse_waiting {s : State} (hadm : Admitted s) {c : Channel} {stage : PulseStage} {t0 : Nat}
    (hph : s.cuPh = .pulse c stage t0) (hwait : s.passed t0 (stageWait s.cfg stage) = false) (d : Channel) (dir : Bool) :
    exec (.mdPulse d dir) s = .next s := by
  rw [exec_mdPulse_next hadm hph, pulseNext_spec]
  cases stage with
  | settle => exact congrArg _ (if_neg (ne_true_of_eq_false hwait))
  | low => exact congrArg _ (if_neg (ne_true_of_eq_false hwait))

/-- The state after the second stage of a pulse on channel `c`: the step output low, its wait begun. -/
def pulseLow (s : State) (c : Channel) : State := { s.setStep c false with cuPh := .pulse c .low s.ts }

/-- The state after the last stage of a pulse on channel `c`: the step output high, the control tick ended (log entry 30). -/
def pulseHigh (s : State) (c : Channel) : State := { s.setStep c true with cuPh := .sleep s.ts }

theorem exec_mdPulse_settled {s : State} (hadm : Admitted s) {c : Channel} {t0 : Nat} (hph : s.cuPh = .pulse c .settle t0)
    (hover : s.passed t0 s.cfg.tSettle = true) (d : Channel) (dir : Bool) :
    exec (.mdPulse d dir) s = .next (pulseLow s c) := by
  rw [exec_mdPulse_next hadm hph, pulseNext_spec]
  exact congrArg _ (if_pos hover)

theorem exec_mdPulse_lowOver {s : State} (hadm : Admitted s) {c : Channel} {t0 : Nat} (hph : s.cuPh = .pulse c .low t0)
    (hover : s.passed t0 s.cfg.tStepLow = true) (d : Channel) (dir : Bool) :
    exec (.mdPulse d dir) s = .next (pulseHigh s c) := by
  rw [exec_mdPulse_next hadm hph, pulseNext_spec]
  exact congrArg _ (if_pos hover)

theorem pulseLow_step (s : State) (c : Channel) : ((pulseLow s c).motor c).step = false := by
  cases c <;> rfl

/-- The last two stages, the second at time `w`: since the output is low between them, the write of 1 is always an edge. -/
theorem pulseHigh_pulseLow (s : State) (c : Channel) (w : Nat) :
    pulseHigh { pulseLow s c with ts := w } c =
      { s.setMotor c { s.motor c with step := true } with
        ts := w, cuPh := .sleep w
        trace := s.trace ++ onChange (.mStep c) (s.motor c).step false ++ [⟨.mStep c, true⟩] } := by
  cases c <;> simp [pulseHigh, pulseLow, State.setStep, State.setMotor, State.motor, changed, onChange]

/-- MD.PULSE from the settle wait on, its last stage at time `w` (R152). -/
theorem exec_mdPulse_twoStages {s : State} (hadm : Admitted s) {c : Channel} {t0 : Nat}
    (hph : s.cuPh = .pulse c .settle t0) (d1 d2 : Bool) (w : Nat) (hsettled : s.passed t0 s.cfg.tSettle = true) :
    ∃ t, exec (.mdPulse c d1) s = .next t ∧ (t.motor c).step = false ∧
      (({ t with ts := w }).passed s.ts s.cfg.tStepLow = false →
        exec (.mdPulse c d2) { t with ts := w } = .next { t with ts := w }) ∧
      (({ t with ts := w }).passed s.ts s.cfg.tStepLow = true →
        exec (.mdPulse c d2) { t with ts := w } = .next { s.setMotor c { s.motor c with step := true } with
          ts := w, cuPh := .sleep w
          trace := s.trace ++ onChange (.mStep c) (s.motor c).step false ++ [⟨.mStep c, true⟩] }) := by
  have hadmLow : Admitted { pulseLow s c with ts := w } := hadm
  refine ⟨pulseLow s c, exec_mdPulse_settled hadm hph hsettled c d1, pulseLow_step s c, fun hwait => ?_, fun hover => ?_⟩
  · exact exec_mdPulse_waiting (stage := .low) hadmLow rfl hwait c d2
  · rw [exec_mdPulse_lowOver hadmLow rfl hover c d2, pulseHigh_pulseLow]

/-- Settles O19: the first stage, and `exec_mdPulse_twoStages` from the settle wait on. -/
theorem pulseEmitsOneRisingEdge : Obligations.PulseEmitsOneRisingEdge := by
  intro s c dir d1 d2 w1 w2 hadm hpulse
  have hadm1 : Admitted { s.pulseBegin c dir with ts := w1 } := hadm
  refine ⟨s.pulseBegin c dir, exec_mdPulse_begin hadm hpulse c dir, pulseBegin_spec s c dir, fun hwait => ?_,
    fun hsettled => ?_⟩
  · exact exec_mdPulse_waiting (stage := .settle) hadm1 rfl hwait c d1
  · obtain ⟨t2, hexec, hstep, hwaiting, hrise⟩ := exec_mdPulse_twoStages hadm1 rfl d1 d2 w2 hsettled
    refine ⟨t2, hexec, hstep, hwaiting, fun hover => (hrise hover).trans ?_⟩
    rw [pulseBegin_spec]
    cases c <;> rfl

end Sys2Proof.Machine

/-! ## Runs of operations in order -/

namespace Sys2Proof.Machine

theorem runOps_cons {i : Instr} {s t : State} (h : exec i s = .next t) (is : List Instr) :
    runOps (i :: is) s = runOps is t := by
  rw [runOps, h]

/-- The operations after a run that goes on start where it ended. -/
theorem runOps_append {is : List Instr} {s t : State} (h : runOps is s = .next t) (js : List Instr) :
    runOps (is ++ js) s = runOps js t := by
  induction is generalizing s with
  | nil => cases h; rfl
  | cons i is ih =>
    rw [List.cons_append]
    cases hexec : exec i s with
    | next u =>
      rw [runOps_cons hexec] at h ⊢
      exact ih h
    | fault r => simp [runOps, hexec] at h
    | refused r => simp [runOps, hexec] at h

end Sys2Proof.Machine

/-! ## The timebase and the captures (R180, R182 to R184) -/

namespace Sys2Proof.Machine

theorem exec_ptTick {s : State} (hadm : Admitted s) : exec .ptTick s = .next (ptTick s) :=
  onBuild_admitted hadm _

theorem exec_ptRise {s : State} (hadm : Admitted s) (i : Us) : exec (.ptRise i) s = .next (ptRise i s) :=
  onBuild_admitted hadm _

theorem exec_ptFall {s : State} (hadm : Admitted s) (i : Us) : exec (.ptFall i) s = .next (ptFall i s) :=
  onBuild_admitted hadm _

/-- Settles O24: `ptTick` behind the build check. -/
theorem tickCountsModulo : Obligations.TickCountsModulo :=
  fun _ hadm => exec_ptTick hadm

/-- Settles O25: `timeSub` is the difference that a fall stores, and `timeSub_eq_emod` its value as an integer. -/
theorem captureWritesOwnRegister : Obligations.CaptureWritesOwnRegister :=
  fun s i hadm => ⟨exec_ptRise hadm i, timeSub s.cfg.tsW s.ts s.letT[i], exec_ptFall hadm i, timeSub_eq_emod _ _ _⟩

/-- The state `n` ticks later. -/
def ticked (s : State) (n : Nat) : State := { s with ts := (s.ts + n) % 2 ^ s.cfg.tsW }

theorem ticked_zero {s : State} (hts : s.ts < 2 ^ s.cfg.tsW) : ticked s 0 = s := by
  rw [ticked, Nat.add_zero, Nat.mod_eq_of_lt hts]

theorem ticked_ptTick (s : State) (n : Nat) : ticked (ptTick s) n = ticked s (n + 1) := by
  simp [ticked, ptTick, Nat.add_right_comm, Nat.add_assoc]

theorem runOps_ticks {s : State} (hadm : Admitted s) (hts : s.ts < 2 ^ s.cfg.tsW) (n : Nat) :
    runOps (List.replicate n .ptTick) s = .next (ticked s n) := by
  induction n generalizing s with
  | zero => rw [ticked_zero hts]; rfl
  | succ n ih =>
    have hlt : (ptTick s).ts < 2 ^ s.cfg.tsW := Nat.mod_lt _ (Nat.two_pow_pos _)
    rw [List.replicate_succ, runOps_cons (exec_ptTick hadm), ih (s := ptTick s) hadm hlt, ticked_ptTick]

/-- The modular difference to a time `n` ticks ago is `n`, whether the timebase wrapped or not (R184). -/
theorem timeSub_add_mod (w a n : Nat) : timeSub w ((a + n) % 2 ^ w) a = n % 2 ^ w := by
  have h : (timeSub w ((a + n) % 2 ^ w) a : Int) = (n % 2 ^ w : Nat) := by
    rw [timeSub_eq_emod]
    push_cast
    rw [Int.emod_sub_emod, add_sub_cancel_left]
  exact_mod_cast h

/-- Settles O26: the rise leaves its time in LET, the ticks move the timebase only, and the fall stores
`timeSub_add_mod`. -/
theorem roundTripIsExact : Obligations.RoundTripIsExact := by
  intro s i n hadm hts
  have hadm' : Admitted (ticked (ptRise i s) n) := hadm
  have hdiff : timeSub s.cfg.tsW ((s.ts + n) % 2 ^ s.cfg.tsW) (s.letT.set i s.ts)[i] = n % 2 ^ s.cfg.tsW := by
    rw [Fin.getElem_fin, Vector.getElem_set_self, timeSub_add_mod]
  have hticks : runOps ([.ptRise i] ++ List.replicate n .ptTick) s = .next (ticked (ptRise i s) n) := by
    rw [List.singleton_append, runOps_cons (exec_ptRise hadm i)]
    exact runOps_ticks (s := ptRise i s) hadm hts n
  rw [runOps_append hticks, runOps_cons (exec_ptFall hadm' i), ← hdiff]
  rfl

end Sys2Proof.Machine

/-! ## The edge detector (R181) -/

namespace Sys2Proof.Machine

theorem exec_ptSample {s : State} (hadm : Admitted s) (i : Us) : exec (.ptSample i) s = .next (ptSample i s) :=
  onBuild_admitted hadm _

/-- Settles O27: the three cases of a sample. -/
theorem sampleShiftsAndCaptures : Obligations.SampleShiftsAndCaptures := by
  intro s i hadm u
  rw [exec_ptSample hadm]
  refine ⟨fun hq => ?_, fun h2 hq => ?_, fun h2 hq => ?_⟩
  · rw [ptSample_quiet hq]
  · rw [ptSample_rise h2 hq]
  · rw [ptSample_fall h2 hq]

/-- The state after a sample of channel `i` that finds no edge, and `n` ticks. -/
def quietSampled (s : State) (i : Us) (n : Nat) : State :=
  ticked { s with sync1 := s.sync1.set i s.ports.echo[i], sync2 := s.sync2.set i s.sync1[i] } n

theorem quietSampled_sync1 (s : State) (i : Us) (n : Nat) : (quietSampled s i n).sync1[i] = s.ports.echo[i] := by
  simp [quietSampled, ticked]

theorem quietSampled_sync2 (s : State) (i : Us) (n : Nat) : (quietSampled s i n).sync2[i] = s.sync1[i] := by
  simp [quietSampled, ticked]

theorem quietSampled_ts_lt (s : State) (i : Us) (n : Nat) : (quietSampled s i n).ts < 2 ^ s.cfg.tsW :=
  Nat.mod_lt _ (Nat.two_pow_pos _)

theorem runOps_quietSample {s : State} (hadm : Admitted s) (hts : s.ts < 2 ^ s.cfg.tsW) {i : Us}
    (hq : s.sync2[i] = s.echoQ[i]) (n : Nat) :
    runOps ([.ptSample i] ++ List.replicate n .ptTick) s = .next (quietSampled s i n) := by
  have hadm' : Admitted (ptSample i s) := by rwa [ptSample_quiet hq]
  have hts' : (ptSample i s).ts < 2 ^ (ptSample i s).cfg.tsW := by rwa [ptSample_quiet hq]
  rw [List.singleton_append, runOps_cons (exec_ptSample hadm i), runOps_ticks hadm' hts', ptSample_quiet hq]
  rfl

/-- Settles O28: two samples without an edge shift the new level to the last stage, where the third one finds it. -/
theorem edgeCapturedAtThirdSample : Obligations.EdgeCapturedAtThirdSample := by
  intro s i level n m hadm hts hsync1 hsync2 hechoQ hecho
  have hquiet : (quietSampled s i n).sync2[i] = (quietSampled s i n).echoQ[i] := by
    rw [quietSampled_sync2, hsync1]
    exact hechoQ.symm
  have hlevel : (quietSampled (quietSampled s i n) i m).sync2[i] = level := by
    rw [quietSampled_sync2, quietSampled_sync1, hecho]
  have hbefore : (quietSampled (quietSampled s i n) i m).echoQ[i] = !level := hechoQ
  have hrun : runOps ([.ptSample i] ++ List.replicate n .ptTick ++ [.ptSample i] ++ List.replicate m .ptTick) s =
      .next (quietSampled (quietSampled s i n) i m) := by
    rw [List.append_assoc, runOps_append (runOps_quietSample hadm hts (hsync2.trans hechoQ.symm) n)]
    exact runOps_quietSample (s := quietSampled s i n) hadm (quietSampled_ts_lt s i n) hquiet m
  have htime : (quietSampled (quietSampled s i n) i m).ts = (s.ts + (n + m)) % 2 ^ s.cfg.tsW := by
    change ((s.ts + n) % 2 ^ s.cfg.tsW + m) % 2 ^ s.cfg.tsW = _
    rw [Nat.mod_add_mod, Nat.add_assoc]
  refine ⟨_, ptSample i (quietSampled (quietSampled s i n) i m), hrun, rfl, rfl, htime, exec_ptSample ?_ i, ?_, ?_⟩
  · exact hadm
  · rintro rfl
    rw [ptSample_rise hlevel hbefore]
    exact ⟨rfl, rfl⟩
  · rintro rfl
    rw [ptSample_fall hlevel hbefore]
    exact ⟨rfl, rfl⟩

end Sys2Proof.Machine

/-! ## The trigger sequencer (R186) -/

namespace Sys2Proof.Machine

theorem exec_ptTrigall {s : State} (hadm : Admitted s) : exec .ptTrigall s = .next (ptTrigall s) :=
  onBuild_admitted hadm _

theorem ptTrigall_sleepOver {s : State} (h : s.tseq = .sleepOver) : ptTrigall s = trigRaise 0 s := by
  rw [ptTrigall, h]

theorem ptTrigall_sleep {s : State} {t0 : Nat} (h : s.tseq = .sleep t0) :
    ptTrigall s = if s.passed t0 s.cfg.rangePeriod then trigRaise 0 s else s := by
  rw [ptTrigall, h]

theorem ptTrigall_high {s : State} {k : Us} {t0 : Nat} (h : s.tseq = .high k t0) :
    ptTrigall s = if s.passed t0 s.cfg.tTrig then trigAdvance k s else s := by
  rw [ptTrigall, h]

/-- Raising a trigger as one update. -/
theorem trigRaise_spec (k : Us) (s : State) : trigRaise k s =
    { s with trig := s.trig.set k true, tseq := .high k s.ts, trace := s.trace ++ onChange (.trig k) s.trig[k] true } :=
  rfl

/-- After the last channel the sequencer sleeps. -/
theorem trigAdvance_last (s : State) : trigAdvance 4 s =
    { s with trig := s.trig.set 4 false, tseq := .sleep s.ts, trace := s.trace ++ onChange (.trig 4) s.trig[4] false } :=
  rfl

/-- After any other channel the next trigger rises; the level it rises from is the one before the move. -/
theorem trigAdvance_next (s : State) {k j : Us} (hj : j.val = k.val + 1) : trigAdvance k s =
    { s with
      trig := (s.trig.set k false).set j true
      tseq := .high j s.ts
      trace := s.trace ++ onChange (.trig k) s.trig[k] false ++ onChange (.trig j) s.trig[j] true } := by
  rcases trigAdvance_spec s k with ⟨rfl, -⟩ | ⟨j', hj', e⟩
  · exact absurd j.isLt (by omega)
  · obtain rfl : j' = j := Fin.ext (hj'.trans hj.symm)
    have hother : (s.trig.set k false)[j'] = s.trig[j'] := by
      rw [Fin.getElem_fin, Vector.getElem_set_ne _ _ (by omega), Fin.getElem_fin]
    rw [e, trigRaise_spec, State.setTrig_trig, hother]
    rfl

/-- Settles O29: the phase says which step can come, its wait whether it does. -/
theorem triggerSequencerSteps : Obligations.TriggerSequencerSteps := by
  intro s hadm
  rw [exec_ptTrigall hadm]
  refine ⟨fun hrest => ?_, fun t0 hsleep => ⟨fun hover => ?_, fun hwait => ?_⟩,
    fun k t0 hhigh => ⟨fun hwait => ?_, fun hover hlast => ?_, fun hover j hj => ?_⟩⟩
  · rw [ptTrigall_sleepOver hrest]
    rfl
  · rw [ptTrigall_sleep hsleep, if_pos hover]
    rfl
  · rw [ptTrigall_sleep hsleep, if_neg (ne_true_of_eq_false hwait)]
  · rw [ptTrigall_high hhigh, if_neg (ne_true_of_eq_false hwait)]
  · rw [ptTrigall_high hhigh, if_pos hover, hlast, trigAdvance_last]
  · rw [ptTrigall_high hhigh, if_pos hover, trigAdvance_next s hj]

/-! ### A ranging iteration without waits -/

/-- `s` with the trigger of channel `k` alone raised, after the events `tr`. -/
def raisedOnly (s : State) (tr : List Emit) (k : Us) : State :=
  { s with trig := (Vector.replicate 5 false).set k true, tseq := .high k s.ts, trace := tr ++ [⟨.trig k, true⟩] }

/-- The two events of one trigger pulse. -/
def pulseEvents (k : Us) : List Emit := [⟨.trig k, true⟩, ⟨.trig k, false⟩]

theorem raisedOnly_trig (s : State) (tr : List Emit) (k j : Us) : (raisedOnly s tr k).trig[j] = decide (j = k) := by
  simp [raisedOnly, Vector.getElem_set, Fin.ext_iff, eq_comm]

theorem raisedOnly_trig_lowered (s : State) (tr : List Emit) (k : Us) :
    (raisedOnly s tr k).trig.set k false = Vector.replicate 5 false :=
  trig_lowered (s := raisedOnly s tr k) rfl rfl

/-- Without waits a raised trigger's next move is made. -/
theorem exec_ptTrigall_raisedOnly {s : State} (hadm : Admitted s) (hunt : s.cfg.timing = .untimed) (tr : List Emit)
    (k : Us) : exec .ptTrigall (raisedOnly s tr k) = .next (trigAdvance k (raisedOnly s tr k)) := by
  have hadm' : Admitted (raisedOnly s tr k) := hadm
  have hover : (raisedOnly s tr k).passed s.ts s.cfg.tTrig = true := passed_untimed hunt _ _
  rw [exec_ptTrigall hadm', ptTrigall_high rfl]
  exact congrArg _ (if_pos hover)

/-- From rest the first trigger rises. -/
theorem exec_ptTrigall_rest {s : State} (hadm : Admitted s) (hunt : s.cfg.timing = .untimed)
    (hlow : s.trig = Vector.replicate 5 false) (hrest : ∀ k t0, s.tseq ≠ .high k t0) :
    exec .ptTrigall s = .next (raisedOnly s s.trace 0) := by
  have hraise : trigRaise 0 s = raisedOnly s s.trace 0 := by
    rw [trigRaise_spec, hlow]
    rfl
  rw [exec_ptTrigall hadm, ← hraise]
  cases hseq : s.tseq with
  | sleepOver => rw [ptTrigall_sleepOver hseq]
  | sleep t0 => rw [ptTrigall_sleep hseq, if_pos (passed_untimed hunt _ _)]
  | high k t0 => exact absurd hseq (hrest k t0)

/-- One trigger falls and the next one rises, so one pulse more is complete. -/
theorem exec_ptTrigall_next {s : State} (hadm : Admitted s) (hunt : s.cfg.timing = .untimed) (tr : List Emit) {k j : Us}
    (hj : j.val = k.val + 1) :
    exec .ptTrigall (raisedOnly s tr k) = .next (raisedOnly s (tr ++ pulseEvents k) j) := by
  have hne : j ≠ k := Fin.ne_of_val_ne (by omega)
  rw [exec_ptTrigall_raisedOnly hadm hunt, trigAdvance_next _ hj, raisedOnly_trig_lowered, raisedOnly_trig,
    raisedOnly_trig, decide_eq_true rfl, decide_eq_false hne]
  simp [raisedOnly, pulseEvents, onChange]

/-- The last trigger falls and the sequencer sleeps. -/
theorem exec_ptTrigall_last {s : State} (hadm : Admitted s) (hunt : s.cfg.timing = .untimed) (tr : List Emit) :
    exec .ptTrigall (raisedOnly s tr 4) =
      .next { s with
        trig := Vector.replicate 5 false, tseq := .sleep s.ts, trace := tr ++ pulseEvents 4 } := by
  have hlow := raisedOnly_trig_lowered s tr 4
  rw [exec_ptTrigall_raisedOnly hadm hunt, trigAdvance_last, ← hlow]
  simp [raisedOnly, pulseEvents, onChange]

/-- Settles O30: the rise of channel 0, four moves from a channel to the next, and the fall of channel 4. -/
theorem rangingIterationPulsesInOrder : Obligations.RangingIterationPulsesInOrder := by
  intro s hadm hunt htrig hrest
  have hlow := trig_low htrig hrest
  have hnext : ∀ tr (k j : Us), j.val = k.val + 1 → exec .ptTrigall (raisedOnly s tr k) =
      .next (raisedOnly s (tr ++ pulseEvents k) j) := fun tr k j hj => exec_ptTrigall_next hadm hunt tr hj
  simp only [List.replicate_succ]
  rw [runOps_cons (exec_ptTrigall_rest hadm hunt hlow hrest), runOps_cons (hnext _ 0 1 rfl),
    runOps_cons (hnext _ 1 2 rfl), runOps_cons (hnext _ 2 3 rfl), runOps_cons (hnext _ 3 4 rfl),
    runOps_cons (exec_ptTrigall_last hadm hunt _), ← hlow]
  simp [runOps, pulseEvents]

end Sys2Proof.Machine

/-! ## The snapshot port (R188) -/

namespace Sys2Proof.Machine

theorem exec_ptSnapshot {s : State} (hadm : Admitted s) : exec .ptSnapshot s = .next (ptSnapshot s) :=
  onBuild_admitted hadm _

/-- The last read leaves no snapshot in progress. -/
theorem readNext_last {s : State} (h : s.snapAt = 4) :
    readNext s = { s with snap := s.snap.set 4 s.lrt[4], snapAt := 0 } := by
  simp only [readNext, h]
  rfl

/-- The readings after `n` reads: `LRT` on the channels read, and what was held before elsewhere. -/
def readingsMade (s : State) (n : Nat) : Readings :=
  Vector.ofFn fun i => if s.snapAt.val ≤ i.val ∧ i.val < s.snapAt.val + n then s.lrt[i] else s.snap[i]

theorem readingsMade_get (s : State) (n : Nat) (i : Us) : (readingsMade s n)[i] =
    if s.snapAt.val ≤ i.val ∧ i.val < s.snapAt.val + n then s.lrt[i] else s.snap[i] := by
  simp [readingsMade]

/-- The state after `n` reads of a snapshot, at most up to channel 4, whose read returns the readings. -/
def readsMade (s : State) (n : Nat) : State :=
  { s with
    snap := readingsMade s n
    snapAt := Fin.ofNat 5 (s.snapAt.val + n)
    ret := if s.snapAt.val + n = 5 then some (.readings (readingsMade s n)) else s.ret }

theorem readsMade_snapAt {s : State} {n : Nat} (hn : s.snapAt.val + n < 5) :
    (readsMade s n).snapAt.val = s.snapAt.val + n :=
  Nat.mod_eq_of_lt hn

theorem readings_ext {v w : Readings} (h : ∀ i : Us, v[i] = w[i]) : v = w :=
  Vector.ext fun i hi => h ⟨i, hi⟩

theorem readsMade_zero (s : State) : readsMade s 0 = s := by
  have hsnap : readingsMade s 0 = s.snap := by
    refine readings_ext fun i => ?_
    rw [readingsMade_get, if_neg (by omega)]
  have hat : Fin.ofNat 5 s.snapAt.val = s.snapAt := Fin.ofNat_val_eq_self _
  rw [readsMade, hsnap, Nat.add_zero, hat, if_neg s.snapAt.isLt.ne]

/-- One read more, but for the value returned. -/
theorem readNext_readsMade {s : State} {n : Nat} (hn : s.snapAt.val + n < 5) :
    readNext (readsMade s n) = { readsMade s (n + 1) with ret := (readsMade s n).ret } := by
  have hat := readsMade_snapAt hn
  have hnext : (readNext (readsMade s n)).snapAt = (readsMade s (n + 1)).snapAt := by
    refine Fin.ext ?_
    simp [readNext, readsMade, Fin.val_add, Nat.add_assoc]
  have hsnap : (readNext (readsMade s n)).snap = readingsMade s (n + 1) := by
    refine readings_ext fun i => ?_
    rw [readNext_snap, readingsMade_get]
    change (if i = _ then s.lrt[i] else (readingsMade s n)[i]) = _
    rw [readingsMade_get]
    grind
  change { s with snap := (readNext (readsMade s n)).snap, snapAt := (readNext (readsMade s n)).snapAt, ret := _ } = _
  rw [hsnap, hnext]
  rfl

theorem ptSnapshot_readsMade {s : State} {n : Nat} (hn : s.snapAt.val + n < 5) :
    ptSnapshot (readsMade s n) = readsMade s (n + 1) := by
  have hat := readsMade_snapAt hn
  rcases ptSnapshot_cases (readsMade s n) with ⟨hlast, e⟩ | ⟨hmore, e⟩ <;> rw [e, readNext_readsMade hn]
  · have hfive : s.snapAt.val + (n + 1) = 5 := by
      rw [hlast] at hat
      omega
    rw [readsMade, if_pos hfive]
  · have hfour : s.snapAt.val + n ≠ 4 := fun h => hmore (Fin.ext (hat.trans h))
    rw [readsMade, readsMade, if_neg (by omega), if_neg (by omega)]

theorem runOps_reads {s : State} (hadm : Admitted s) {n : Nat} (hn : s.snapAt.val + n ≤ 5) :
    runOps (List.replicate n .ptSnapshot) s = .next (readsMade s n) := by
  induction n with
  | zero => rw [readsMade_zero]; rfl
  | succ n ih =>
    have hadm' : Admitted (readsMade s n) := hadm
    rw [List.replicate_succ', runOps_append (ih (by omega)), runOps_cons (exec_ptSnapshot hadm'),
      ptSnapshot_readsMade (by omega)]
    rfl

/-- An undisturbed snapshot returns `LRT`. -/
theorem readsMade_all {s : State} (h : s.snapAt = 0) :
    readsMade s 5 = { s with snap := s.lrt, ret := some (.readings s.lrt) } := by
  have hval : s.snapAt.val = 0 := congrArg Fin.val h
  have hsnap : readingsMade s 5 = s.lrt := by
    refine readings_ext fun i => ?_
    rw [readingsMade_get, if_pos (by omega)]
  rw [readsMade, hsnap, hval, if_pos rfl, h]
  rfl

/-- The readings where a falling edge of channel `j` falls between the first `n` reads of a snapshot and the others: the
others read what it left. -/
theorem readingsMade_straddled {s : State} (h : s.snapAt.val = 0) (j : Us) {n : Nat}
    (hat : (ptFall j (readsMade s n)).snapAt.val = n) (i : Us) :
    (readingsMade (ptFall j (readsMade s n)) (5 - n))[i] = if n ≤ i.val then (ptFall j s).lrt[i] else s.lrt[i] := by
  rw [readingsMade_get, hat]
  by_cases hi : n ≤ i.val
  · rw [if_pos ⟨hi, by omega⟩, if_pos hi]
    rfl
  · rw [if_neg (fun hr => hi hr.1), if_neg hi]
    change (readingsMade s n)[i] = _
    rw [readingsMade_get, if_pos (by omega)]

/-- A snapshot from channel 0, with a falling edge of channel `j` captured after `n` of its reads. -/
theorem runOps_straddled {s : State} (hadm : Admitted s) (h : s.snapAt = 0) (j : Us) {n : Nat} (hn : n ≤ 5) :
    ∃ t, runOps (List.replicate n .ptSnapshot ++ [.ptFall j] ++ List.replicate (5 - n) .ptSnapshot) s = .next t ∧
      t.ret = some (.readings t.snap) ∧ t.snapAt = 0 ∧
      ∀ i : Us, t.snap[i] = if n ≤ i.val then (ptFall j s).lrt[i] else s.lrt[i] := by
  have hzero : s.snapAt.val = 0 := congrArg Fin.val h
  have hadm' : Admitted (readsMade s n) := hadm
  have hreads := runOps_reads hadm (n := n) (by omega)
  rw [List.append_assoc, runOps_append hreads, List.singleton_append, runOps_cons (exec_ptFall hadm' j)]
  obtain rfl | hlt := hn.eq_or_lt
  · refine ⟨ptFall j (readsMade s 5), rfl, ?_, ?_, fun i => ?_⟩ <;> rw [readsMade_all h]
    · rfl
    · exact h
    · rw [if_neg (by omega)]
      rfl
  · have hat : (ptFall j (readsMade s n)).snapAt.val = n := by
      have hreadAt := readsMade_snapAt (s := s) (n := n) (by omega)
      rwa [hzero, Nat.zero_add] at hreadAt
    have hall : (ptFall j (readsMade s n)).snapAt.val + (5 - n) = 5 := by omega
    refine ⟨_, runOps_reads (s := ptFall j (readsMade s n)) hadm hall.le, ?_, ?_, fun i => ?_⟩
    · exact if_pos hall
    · rw [readsMade, hall]
      rfl
    · exact readingsMade_straddled hzero j hat i

/-- Settles O31: `readNext` behind the two cases of a move, the five moves together by `readsMade_all`, and a capture between
them by `runOps_straddled`. -/
theorem snapshotReturnsReadings : Obligations.SnapshotReturnsReadings := by
  intro s hadm
  rw [exec_ptSnapshot hadm]
  refine ⟨fun hmore => ?_, fun hlast => ?_, fun hstart => ⟨?_, fun j n hn => ?_⟩⟩
  · rw [ptSnapshot, if_neg hmore, readNext]
  · rw [ptSnapshot, if_pos hlast, readNext_last hlast]
  · rw [runOps_reads hadm (by simp [hstart]), readsMade_all hstart]
  · obtain ⟨t, hrun, hret, hat, hread⟩ := runOps_straddled hadm hstart j hn
    refine ⟨t, t.snap, hrun, hret, rfl, hat, ?_, fun i hij => ?_⟩
    · rw [hread j]
      simp [ptFall]
    · have hother : (ptFall j s).lrt[i] = s.lrt[i] := by simp [ptFall, Fin.val_ne_of_ne hij.symm]
      rw [hread i, hother, ite_self]

end Sys2Proof.Machine

/-! ## The roam decision and the side readings (R200 to R202) -/

namespace Sys2Proof.Machine

/-- Settles O33: RM.DECIDE answers the command of `rmDecide`, whose one test is on the centre reading. -/
theorem decideComparesOnlyTheCentre : Obligations.DecideComparesOnlyTheCentre :=
  fun _ _ hadm => onBuild_admitted hadm _

/-- Readings that agree in the centre give the same command (R201). -/
theorem rmDecide_eq_of_center (cfg : Config) {r r' : Readings} (h : r[center] = r'[center]) :
    rmDecide cfg r = rmDecide cfg r' := by
  rw [rmDecide, rmDecide, h]

theorem steerBy_eq_of_center (s : State) {r r' : Readings} (h : r[center] = r'[center]) : steerBy r s = steerBy r' s := by
  rw [steerBy, steerBy, rmDecide_eq_of_center s.cfg h]

/-! ### Operations that neither read nor write the readings -/

/-- `s` with other readings, in `LRT` and in the snapshot. -/
def State.withReadings (s : State) (v w : Readings) : State := { s with lrt := v, snap := w }

@[simp] theorem State.withReadings_cfg (s : State) (v w : Readings) : (s.withReadings v w).cfg = s.cfg := rfl
@[simp] theorem State.withReadings_rxq (s : State) (v w : Readings) : (s.withReadings v w).rxq = s.rxq := rfl
@[simp] theorem State.withReadings_cuPh (s : State) (v w : Readings) : (s.withReadings v w).cuPh = s.cuPh := rfl
@[simp] theorem State.withReadings_mode (s : State) (v w : Readings) : (s.withReadings v w).mode = s.mode := rfl
@[simp] theorem State.withReadings_steer (s : State) (v w : Readings) : (s.withReadings v w).steer = s.steer := rfl
@[simp] theorem State.withReadings_fireBusy (s : State) (v w : Readings) : (s.withReadings v w).fireBusy = s.fireBusy := rfl
@[simp] theorem State.withReadings_snapAt (s : State) (v w : Readings) : (s.withReadings v w).snapAt = s.snapAt := rfl
@[simp] theorem State.withReadings_inTick (s : State) (v w : Readings) : (s.withReadings v w).inTick = s.inTick := rfl

/-- `f` neither reads nor writes the readings: it does the same whatever they are, and hands them on. -/
def ReadingsBlind (f : State → State) : Prop := ∀ s v w, f (s.withReadings v w) = (f s).withReadings v w

theorem ReadingsBlind.comp {f g : State → State} (hg : ReadingsBlind g) (hf : ReadingsBlind f) :
    ReadingsBlind fun s => g (f s) :=
  fun s v w => (congrArg g (hf s v w)).trans (hg (f s) v w)

theorem raise_blind (r : Result) : ReadingsBlind fun s => s.raise r := fun _ _ _ => rfl

theorem pulseBegin_blind (c : Channel) (dir : Bool) : ReadingsBlind fun s => s.pulseBegin c dir := fun _ _ _ => rfl

theorem setVel_blind (c : Channel) (x : Int) : ReadingsBlind fun s => s.setVel c x := fun s v w => by
  simp only [setVel_spec]
  split_ifs <;> rfl

theorem stopAll_blind : ReadingsBlind State.stopAll := fun s v w => by
  rw [stopAll_spec, stopAll_spec]
  rfl

theorem applySteer_blind (cmd : SteeringCommand) : ReadingsBlind (applySteer cmd) := by
  cases cmd with
  | forward => exact fun _ _ _ => rfl
  | left => exact fun _ _ _ => rfl
  | right => exact fun _ _ _ => rfl
  | stop => exact stopAll_blind

/-- The decision on given readings is blind to those of the state. -/
theorem steerBy_blind (r : Readings) : ReadingsBlind (steerBy r) := fun s v w => by
  simp only [steerBy, State.withReadings_cfg, State.withReadings_steer, applySteer_blind _ s v w]
  split_ifs <;> rfl

theorem dispatchA_blind (f : FrameA) : ReadingsBlind (dispatchA f) := fun s v w => by
  unfold dispatchA
  rw [State.withReadings_cfg]
  dsimp only
  split_ifs
  · rfl
  · rfl
  · rfl
  · exact (pulseBegin_blind .left _).comp (raise_blind .ok) s v w
  · exact (pulseBegin_blind .right _).comp (raise_blind .ok) s v w
  · rfl

theorem dispatchB_blind (f : FrameB) : ReadingsBlind (dispatchB f) := fun s v w => by
  unfold dispatchB
  rw [State.withReadings_cfg]
  dsimp only
  split_ifs
  · rfl
  · exact stopAll_blind.comp (raise_blind .ok) s v w
  · rfl
  · exact (setVel_blind .left _).comp (raise_blind .ok) s v w
  · exact (setVel_blind .right _).comp (raise_blind .ok) s v w
  · rfl

theorem sfFrame_blind : ReadingsBlind sfFrame := fun s v w => by
  cases hp : s.cfg.profile with
  | layoutA =>
    simp only [sfFrame, hp, State.withReadings_cfg, State.rxPeek, State.withReadings_rxq]
    split
    · exact dispatchA_blind _ (s.rxDrop 3) v w
    · rfl
  | layoutB =>
    simp only [sfFrame, hp, State.withReadings_cfg, State.rxPeek, State.withReadings_rxq]
    split
    · exact dispatchB_blind _ (s.rxDrop 4) v w
    · rfl
  | teleop => simp only [sfFrame, hp, State.withReadings_cfg]

theorem tF_blind : ReadingsBlind tF := fun s v w => by
  rw [tF, tF, State.withReadings_fireBusy]
  split_ifs <;> rfl

theorem stopCharacter_blind : ReadingsBlind fun s => { s.raise .ok with steer := .stop }.stopAll :=
  fun s v w => stopAll_blind { s.raise .ok with steer := .stop } v w

theorem dispatchT_blind (ch : Byte) : ReadingsBlind (dispatchT ch) := fun s v w => by
  unfold dispatchT
  split_ifs
  · rfl
  · rfl
  · rfl
  · rfl
  · exact tF_blind s v w
  · rfl
  · exact stopCharacter_blind s v w
  · exact stopCharacter_blind s v w

theorem tAccept_blind (ch : Byte) : ReadingsBlind (tAccept ch) := fun s v w => by
  have hsame : debounced ch (s.withReadings v w) = debounced ch s := rfl
  rw [tAccept, tAccept, hsame]
  split_ifs
  · rfl
  · exact dispatchT_blind ch (acceptChar ch s) v w

theorem readChar_blind : ReadingsBlind readChar := fun s v w => by
  simp only [readChar, State.rxPeek, State.withReadings_rxq]
  split
  · exact tAccept_blind _ (s.rxDrop 1) v w
  · rfl

theorem endTick_blind : ReadingsBlind endTick := fun s v w => by
  simp only [endTick, State.withReadings_cuPh]
  split <;> rfl

/-! ### States that differ at most in the side readings -/

/-- `u` differs from `s` at most in the four side readings of `LRT` and of the snapshot. -/
def SameButSides (s u : State) : Prop :=
  ∃ v w, v[center] = s.lrt[center] ∧ w[center] = s.snap[center] ∧ u = s.withReadings v w

/-- The readings a blind operation hands on are those it found. -/
theorem ReadingsBlind.keeps {f : State → State} (hf : ReadingsBlind f) (s : State) :
    (f s).lrt = s.lrt ∧ (f s).snap = s.snap := by
  have h : f s = (f s).withReadings s.lrt s.snap := hf s s.lrt s.snap
  rw [h]
  exact ⟨rfl, rfl⟩

theorem ReadingsBlind.sameButSides {f : State → State} (hf : ReadingsBlind f) {s u : State} (h : SameButSides s u) :
    SameButSides (f s) (f u) := by
  obtain ⟨v, w, hv, hw, rfl⟩ := h
  obtain ⟨hlrt, hsnap⟩ := hf.keeps s
  exact ⟨v, w, by rw [hv, hlrt], by rw [hw, hsnap], hf s v w⟩

/-- Whether a roam step is in progress is no reading. -/
theorem setInTick_blind (b : Bool) : ReadingsBlind fun s => { s with inTick := b } := fun _ _ _ => rfl

/-- One read: the centre of the snapshot stays or is read from the centre of `LRT` (R188). -/
theorem readNext_sameButSides {s u : State} (h : SameButSides s u) : SameButSides (readNext s) (readNext u) := by
  obtain ⟨v, w, hv, hw, rfl⟩ := h
  have hcenter : (readNext (s.withReadings v w)).snap[center] = (readNext s).snap[center] := by
    rw [readNext_snap, readNext_snap, State.withReadings_snapAt]
    exact if_congr Iff.rfl hv hw
  exact ⟨v, _, hv, hcenter, rfl⟩

/-- RM's decision on the snapshot: it compares the centre and is blind to the rest (R201, R222). -/
theorem steerBy_sameButSides {s u : State} (h : SameButSides s u) :
    SameButSides (steerBy s.snap s) (steerBy u.snap u) := by
  have hcenter : u.snap[center] = s.snap[center] := by
    obtain ⟨v, w, -, hw, rfl⟩ := h
    exact hw
  rw [steerBy_eq_of_center u hcenter]
  exact (steerBy_blind s.snap).sameButSides h

theorem roamMove_last {s : State} (h : s.snapAt = 4) :
    roamMove s = endTick { steerBy (readNext s).snap (readNext s) with inTick := false } := by
  rw [roamMove, if_pos h, roamStep, if_pos h]

theorem roamMove_more {s : State} (h : s.snapAt ≠ 4) : roamMove s = { readNext s with inTick := true } := by
  rw [roamMove, if_neg h, roamStep, if_neg h]

theorem SameButSides.snapAt {s u : State} (h : SameButSides s u) : u.snapAt = s.snapAt := by
  obtain ⟨v, w, -, -, rfl⟩ := h
  rfl

/-- A move inside a roam step: a read, and with the last one the decision and the end of the tick. -/
theorem roamMove_sameButSides {s u : State} (h : SameButSides s u) : SameButSides (roamMove s) (roamMove u) := by
  have hread := readNext_sameButSides h
  by_cases hlast : s.snapAt = 4
  · rw [roamMove_last hlast, roamMove_last (h.snapAt.trans hlast)]
    exact (endTick_blind.comp (setInTick_blind false)).sameButSides (steerBy_sameButSides hread)
  · rw [roamMove_more hlast, roamMove_more (h.snapAt.trans_ne hlast)]
    exact (setInTick_blind true).sameButSides hread

theorem roamAndSleep_sameButSides {s u : State} (h : SameButSides s u) :
    SameButSides (roamAndSleep s) (roamAndSleep u) := by
  have hstart : SameButSides { s with snapAt := 0 } { u with snapAt := 0 } :=
    ReadingsBlind.sameButSides (f := fun r => { r with snapAt := 0 }) (fun _ _ _ => rfl) h
  have hend := endTick_blind.sameButSides h
  have hroam := roamMove_sameButSides hstart
  have hnone := h
  obtain ⟨v, w, -, -, rfl⟩ := h
  unfold roamAndSleep
  rw [State.withReadings_cuPh, State.withReadings_mode]
  split_ifs
  · exact hnone
  · exact hroam
  · exact hend

theorem tickBody_sameButSides {s u : State} (h : SameButSides s u) : SameButSides (tickBody s) (tickBody u) := by
  have hframed := (endTick_blind.comp sfFrame_blind).sameButSides h
  have hchar := roamAndSleep_sameButSides (readChar_blind.sameButSides h)
  obtain ⟨v, w, -, -, rfl⟩ := h
  unfold tickBody
  rw [State.withReadings_cfg]
  split
  · exact hframed
  · exact hframed
  · exact hchar

/-- CU.TICK is blind to the side readings, whichever of its moves it makes (R210). -/
theorem cuTick_sameButSides {s u : State} (h : SameButSides s u) : SameButSides (cuTick s) (cuTick u) := by
  have hready : SameButSides { s with cuPh := .ready } { u with cuPh := .ready } :=
    ReadingsBlind.sameButSides (f := fun r => { r with cuPh := .ready }) (fun _ _ _ => rfl) h
  have hroam := roamMove_sameButSides h
  have hbody := tickBody_sameButSides hready
  have hnone := h
  obtain ⟨v, w, -, -, rfl⟩ := h
  have hawake : cuAwake (s.withReadings v w) = cuAwake s := rfl
  unfold cuTick
  rw [State.withReadings_inTick, hawake]
  split_ifs
  · exact hroam
  · exact hbody
  · exact hnone

/-- Settles O34: `cuTick_sameButSides`; the tick writes no `LRT` (`cuTick_writes`), so the readings put there are still in it. -/
theorem sideReadingsNeverMatter : Obligations.SideReadingsNeverMatter := by
  intro s v w hadm hv hw
  have hexec (r : State) (hr : Admitted r) : exec .cuTick r = .next (cuTick r) := onBuild_admitted hr _
  obtain ⟨v', x, -, hx, htick⟩ := cuTick_sameButSides ⟨v, w, hv, hw, rfl⟩
  obtain ⟨-, hlrt⟩ := (cuTick_writes (s.withReadings v w)).captures
  have hv' : v' = v := by
    rw [htick] at hlrt
    exact hlrt
  rw [hv'] at htick
  exact ⟨cuTick s, x, hexec s hadm, (hexec (s.withReadings v w) hadm).trans (congrArg _ htick), hx⟩

end Sys2Proof.Machine

/-! ## Characters: dispatch, debounce and repeats (R212 to R221) -/

namespace Sys2Proof.Machine

theorem exec_tAccept {s : State} (hadm : Admitted s) (ch : Byte) : exec (.tAccept ch) s = .next (tAccept ch s) :=
  onBuild_admitted hadm _

/-- The decoder's row of a character does what the dispatch of T.ACCEPT does: both make the same tests in the same order. -/
theorem exec_decodeT {s : State} (hadm : Admitted s) (ch : Byte) : exec (decodeT ch) s = .next (dispatchT ch s) := by
  rw [← onBuild_admitted hadm (.next (dispatchT ch s))]
  unfold decodeT dispatchT
  split_ifs <;> rfl

/-- Settles O35: each motion is `runBoth_spec` on the state its result and `STEER` are recorded in. -/
theorem motionCharactersRunBothChannels : Obligations.MotionCharactersRunBothChannels := by
  intro s hadm
  have hmotion (t : State) (dl dr dv : Bool) : onBuild s (.next (t.runBoth dl dr dv)) = .next (runningBoth t dl dr dv) := by
    rw [onBuild_admitted hadm, runBoth_spec]
  exact ⟨hmotion { s.raise .ok with steer := .reverse } false false false,
    hmotion { s.raise .ok with steer := .forward } true true false,
    hmotion { s.raise .ok with steer := .left } false true true,
    hmotion { s.raise .ok with steer := .right } true false true⟩

/-- Settles O36: the flag selects between REENTRANT and `fire_spec`; T.R is one update. -/
theorem fireAndRoamCharacters : Obligations.FireAndRoamCharacters := by
  intro s hadm
  have hfire : exec .tF s = .next (tF s) := onBuild_admitted hadm _
  rw [hfire, tF]
  refine ⟨fun hbusy => ?_, fun hfree => ?_, onBuild_admitted hadm _⟩
  · rw [if_pos hbusy]
    rfl
  · rw [if_neg (by simp [hfree]), fire_spec]
    rfl

/-! ### Debounce (R212, R213) -/

theorem debounced_iff (ch : Byte) (s : State) : debounced ch s = true ↔ s.lastValid = true ∧ ch = s.lastChar := by
  simp [debounced]

theorem tAccept_repeat {ch : Byte} {s : State} (hvalid : s.lastValid = true) (hch : ch = s.lastChar) :
    tAccept ch s = { s with lastResult := .debounced } := by
  rcases tAccept_cases ch s with ⟨-, e⟩ | ⟨hfresh, -⟩
  · exact e
  · simp [(debounced_iff ch s).2 ⟨hvalid, hch⟩] at hfresh

theorem tAccept_fresh {ch : Byte} {s : State} (h : s.lastValid = false ∨ ch ≠ s.lastChar) :
    tAccept ch s = dispatchT ch (acceptChar ch s) := by
  rcases tAccept_cases ch s with ⟨hrepeat, -⟩ | ⟨-, e⟩
  · obtain ⟨hvalid, hch⟩ := (debounced_iff ch s).1 hrepeat
    simp [hvalid, hch] at h
  · exact e

/-- A character that is no repeat is accepted and runs the operation it decodes to. -/
theorem exec_decodeT_accepted {ch : Byte} {s : State} (hadm : Admitted s) (h : s.lastValid = false ∨ ch ≠ s.lastChar) :
    exec (decodeT ch) (acceptChar ch s) = .next (tAccept ch s) := by
  rw [tAccept_fresh h]
  exact exec_decodeT (s := acceptChar ch s) hadm ch

/-- Settles O37: a repeat by `tAccept_repeat`, any other character by `exec_decodeT_accepted`. -/
theorem acceptDebouncesThenDispatches : Obligations.AcceptDebouncesThenDispatches := by
  intro s ch hadm
  rw [exec_tAccept hadm]
  exact ⟨fun hvalid hch => by rw [tAccept_repeat hvalid hch],
    fun hfresh => ⟨_, rfl, exec_decodeT_accepted hadm hfresh⟩⟩

/-- Settles O38: after T.ACCEPT the character is the last accepted one (`tAccept_frame`), which makes the next equal character a
repeat and the next different one fresh. -/
theorem repeatIsDebouncedUnlessInterrupted : Obligations.RepeatIsDebouncedUnlessInterrupted := by
  intro s ch other hadm hne
  obtain ⟨hcfg, hvalid, hchar⟩ := tAccept_frame ch s
  obtain ⟨hcfg', -, hchar'⟩ := tAccept_frame other (tAccept ch s)
  have hadm' : Admitted (tAccept ch s) := by rw [Admitted, hcfg]; exact hadm
  have hadm'' : Admitted (tAccept other (tAccept ch s)) := by rw [Admitted, hcfg']; exact hadm'
  have hother : other ≠ (tAccept ch s).lastChar := by rw [hchar]; exact hne
  have hagain : ch ≠ (tAccept other (tAccept ch s)).lastChar := by rw [hchar']; exact hne.symm
  refine ⟨_, _, exec_tAccept hadm ch, exec_decodeT_accepted hadm, ?_, exec_tAccept hadm' other,
    exec_decodeT_accepted hadm' (.inr hother), _, exec_tAccept hadm'' ch, exec_decodeT_accepted hadm'' (.inr hagain)⟩
  rw [exec_tAccept hadm', tAccept_repeat hvalid hchar.symm]

end Sys2Proof.Machine

/-! ## Steering and the roam step (R222, R223) -/

namespace Sys2Proof.Machine

/-- Settles O42: `applySteer_spec` for each command. -/
theorem steeringActuationMap : Obligations.SteeringActuationMap := by
  intro s hadm
  have happly (cmd : SteeringCommand) : exec (.applySteer cmd) s = .next (applySteer cmd s) := onBuild_admitted hadm _
  rw [happly, happly, happly, happly, applySteer_spec, applySteer_spec, applySteer_spec, applySteer_spec]
  exact ⟨rfl, rfl, rfl, rfl⟩

theorem exec_cuRoamstep {s : State} (hadm : Admitted s) : exec .cuRoamstep s = .next (roamStep s) :=
  onBuild_admitted hadm _

theorem roamStep_more {s : State} (h : s.snapAt ≠ 4) : roamStep s = readNext s := if_neg h

theorem roamStep_last {s : State} (h : s.snapAt = 4) : roamStep s = steerBy (readNext s).snap (readNext s) := if_pos h

/-- The last read is of channel 4, so the centre reading is the one made before. -/
theorem readNext_last_center {s : State} (h : s.snapAt = 4) : (readNext s).snap[center] = s.snap[center] := by
  rw [readNext_snap, h]
  exact if_neg (by decide)

/-- Below the limit the decision is Right, which changes nothing where it is applied already (R200, R222). -/
theorem steerBy_below {r : Readings} {s : State} (h : r[center] < s.cfg.wallLimit) : steerBy r s =
    if s.steer = .right then s else { runningBoth s true false true with steer := .right } := by
  rcases steerBy_cases r s with ⟨-, hne, e⟩ | ⟨hle, -, -⟩ | ⟨hright, -, e⟩
  · rw [if_neg hne, e]
  · omega
  · rw [if_pos (hright h), e]

/-- At the limit or above the decision is Forward. -/
theorem steerBy_clear {r : Readings} {s : State} (h : s.cfg.wallLimit ≤ r[center]) : steerBy r s =
    if s.steer = .forward then s else { runningBoth s true true false with steer := .forward } := by
  rcases steerBy_cases r s with ⟨hlt, -, -⟩ | ⟨-, hne, e⟩ | ⟨-, hforward, e⟩
  · omega
  · rw [if_neg hne, e]
  · rw [if_pos (hforward h), e]

/-- Settles O41: a read by `readNext`, and with the last one the four ways the decision and `STEER` can stand. -/
theorem roamStepAppliesOnlyChanges : Obligations.RoamStepAppliesOnlyChanges := by
  intro s hadm
  rw [exec_cuRoamstep hadm]
  refine ⟨fun hmore => ?_, fun hlast => ?_⟩
  · rw [roamStep_more hmore]
    rfl
  · intro r
    have hread : readNext s = r := readNext_last hlast
    have hcenter : r.snap[center] = s.snap[center] := by
      rw [← hread]
      exact readNext_last_center hlast
    rw [roamStep_last hlast, hread]
    refine ⟨fun hlt hsteer => ?_, fun hlt hsteer => ?_, fun hle hsteer => ?_, fun hle hsteer => ?_⟩ <;> congr 1
    · exact (steerBy_below (s := r) (hcenter.trans_lt hlt)).trans (if_pos hsteer)
    · exact (steerBy_below (s := r) (hcenter.trans_lt hlt)).trans (if_neg hsteer)
    · exact (steerBy_clear (s := r) (hle.trans_eq hcenter.symm)).trans (if_pos hsteer)
    · exact (steerBy_clear (s := r) (hle.trans_eq hcenter.symm)).trans (if_neg hsteer)

end Sys2Proof.Machine

/-! ## The control tick (R210, R211) -/

namespace Sys2Proof.Machine

theorem exec_cuTick {s : State} (hadm : Admitted s) : exec .cuTick s = .next (cuTick s) := onBuild_admitted hadm _

theorem cuAwake_iff (s : State) : cuAwake s = true ↔
    s.cuPh = .ready ∨ ∃ t0, s.cuPh = .sleep t0 ∧ s.passed t0 s.cfg.ctrlPeriod = true := by
  unfold cuAwake
  cases s.cuPh <;> simp

/-- Outside a roam step, CU that is not awake does nothing. -/
theorem cuTick_busy {s : State} (hin : s.inTick = false) (hbusy : cuAwake s = false) : cuTick s = s := by
  rw [cuTick, if_neg (by simp [hin]), if_neg (by simp [hbusy])]

theorem cuTick_awake {s : State} (hin : s.inTick = false) (hawake : cuAwake s = true) :
    cuTick s = tickBody { s with cuPh := .ready } := by
  rw [cuTick, if_neg (by simp [hin]), if_pos hawake]

theorem cuTick_reading {s : State} (hin : s.inTick = true) : cuTick s = roamMove s := if_pos hin

theorem tickBody_teleop {s : State} (hT : s.cfg.profile = .teleop) : tickBody s = roamAndSleep (readChar s) := by
  rw [tickBody, hT]

/-- Settles O40: a fire, a pulse and an unfinished sleep are the phases in which CU is not awake. -/
theorem busyControlUnitTakesNoTick : Obligations.BusyControlUnitTakesNoTick := by
  intro s hadm hin hbusy
  have hawake : cuAwake s = false := by
    rcases hbusy with h | ⟨c, stage, t0, h⟩ | ⟨t0, h, hwait⟩
    · simp [cuAwake, h]
    · simp [cuAwake, h]
    · simp [cuAwake, h, hwait]
  rw [exec_cuTick hadm, cuTick_busy hin hawake]

/-- The end of a tick of CU that is in no pulse. -/
theorem endTick_ready {s : State} (h : s.cuPh = .ready) : endTick s = { s with cuPh := .sleep s.ts } := by
  rw [endTick, h]

theorem readChar_empty {s : State} (h : s.rxq = []) : readChar s = s := by
  rcases readChar_cases s with ⟨-, e⟩ | ⟨ch, rest, hq, -⟩
  · exact e
  · simp [h] at hq

theorem readChar_cons {s : State} {ch : Byte} {rest : List Byte} (h : s.rxq = ch :: rest) :
    readChar s = tAccept ch { s with rxq := rest } := by
  rcases readChar_cases s with ⟨hq, -⟩ | ⟨ch', rest', hq, e⟩
  · simp [h] at hq
  · obtain ⟨rfl, rfl⟩ := List.cons.inj (h.symm.trans hq)
    exact e

/-- A character leaves CU ready, or holds it with a fire. -/
theorem readChar_cuPh {s : State} (h : s.cuPh = .ready) : (readChar s).cuPh = .ready ∨ (readChar s).cuPh = .firing := by
  rcases readChar_cases s with ⟨-, e⟩ | ⟨ch, rest, -, e⟩ <;> rw [e]
  · exact .inl h
  · rw [← h]
    exact tAccept_cuPh ch { s with rxq := rest }

/-- How a tick of profile T that has come to `t` with its character goes on: `u` is `t` held by a fire, asleep in Manual, or
inside its roam step in Roam (R210). -/
def GoesOn (t u : State) : Prop :=
  (t.cuPh = .firing → u = t) ∧
  (t.cuPh ≠ .firing → t.mode = .manual → u = { t with cuPh := .sleep t.ts }) ∧
  (t.cuPh ≠ .firing → t.mode = .roam → u = { t with snap := t.snap.set 0 t.lrt[0], snapAt := 1, inTick := true })

theorem roamAndSleep_goesOn {t : State} (h : t.cuPh = .ready ∨ t.cuPh = .firing) : GoesOn t (roamAndSleep t) := by
  rcases roamAndSleep_cases t with ⟨hfire, e⟩ | ⟨hfree, hmode, e⟩ | ⟨hfree, hmode, e⟩
  · exact ⟨fun _ => e, fun hfree => absurd hfire hfree, fun hfree => absurd hfire hfree⟩
  · exact ⟨fun hfire => absurd hfire hfree, fun _ hman => by simp [hman] at hmode, fun _ _ => e⟩
  · refine ⟨fun hfire => absurd hfire hfree, fun _ _ => ?_, fun _ hroam => by simp [hroam] at hmode⟩
    rw [e, endTick_ready (h.resolve_right hfree)]

/-- The end of a framed profile's tick: CU sleeps, or stays in the pulse its frame began (R210). -/
theorem endTick_sfFrame {s : State} (h : s.cuPh = .ready) : endTick (sfFrame s) =
    if (sfFrame s).cuPh = .ready then { sfFrame s with cuPh := .sleep (sfFrame s).ts } else sfFrame s := by
  rcases sfFrame_cuPh s with hph | ⟨c, hph⟩
  · rw [h] at hph
    rw [if_pos hph, endTick_ready hph]
  · rw [if_neg (by simp [hph]), endTick, hph]

theorem roamStep_keeps_cuPh (s : State) : (roamStep s).cuPh = s.cuPh := by
  rcases roamStep_cases s with ⟨-, e⟩ | ⟨-, e⟩ <;> rw [e]
  · rw [steerBy_frame]
    rfl
  · rfl

/-- Settles O39: a tick that begins is one framer step (`endTick_sfFrame`) or one character and how it goes on (`GoesOn`); a
tick inside its roam step makes the next move of it. -/
theorem controlTickFollowsItsRule : Obligations.ControlTickFollowsItsRule := by
  intro s hadm
  rw [exec_cuTick hadm, exec_cuRoamstep hadm]
  refine ⟨fun hin hawake => ?_, fun hin hready => ⟨_, rfl, fun hmore => ?_, fun hlast => ?_⟩⟩
  · intro r
    have htick : cuTick s = tickBody r := cuTick_awake hin ((cuAwake_iff s).2 hawake)
    rw [htick]
    refine ⟨fun hframed => ⟨sfFrame r, onBuild_admitted hadm _, ?_⟩, fun hT => ⟨readChar r, readChar_empty (s := r), ?_, ?_⟩⟩
    · rw [tickBody_framed (s := r) hframed, endTick_sfFrame rfl]
    · intro ch rest hq
      rw [readChar_cons (s := r) hq]
      exact exec_tAccept (s := { r with rxq := rest }) hadm ch
    · obtain ⟨hfire, hman, hroam⟩ := roamAndSleep_goesOn (readChar_cuPh (s := r) rfl)
      rw [tickBody_teleop (s := r) hT]
      exact ⟨fun h => congrArg _ (hfire h), fun h hm => congrArg _ (hman h hm), fun h hm => congrArg _ (hroam h hm)⟩
  · rw [cuTick_reading hin, roamMove, if_neg hmore]
  · rw [cuTick_reading hin, roamMove, if_pos hlast,
      endTick_ready (s := { roamStep s with inTick := false }) ((roamStep_keeps_cuPh s).trans hready)]

/-- Settles O50: CU's turn is the tick of the state whose character `exec_decodeT_accepted` runs, and `GoesOn` says the rest. -/
theorem stepRunsDecodedCharacter : Obligations.StepRunsDecodedCharacter := by
  intro s i ch rest hadm hslot hready hin hwho hT hq hfresh hd
  rw [hq, decode_teleop hT] at hd
  obtain ⟨rfl⟩ : decodeT ch = i := by
    cases hd
    rfl
  set r : State := { s with rxq := rest, slot := .edge } with hr
  have hself : ({ s with slot := .edge, cuPh := .ready } : State) = { s with slot := .edge } := by rw [← hready]
  have htick : cuTick { s with slot := .edge } = roamAndSleep (tAccept ch r) := by
    rw [cuTick_awake (s := { s with slot := .edge }) hin (by simp [cuAwake, hready]), hself,
      tickBody_teleop (s := { s with slot := .edge }) hT, readChar_cons (s := { s with slot := .edge }) hq]
  have hstep : step s = .next (roamAndSleep (tAccept ch r)) := by
    rw [step_eq_slotTurn hadm hwho, slotTurn_cu_ready hadm hslot hready hin, htick]
  have hph : (tAccept ch r).cuPh = .ready ∨ (tAccept ch r).cuPh = .firing := by
    rw [← hready]
    exact tAccept_cuPh ch r
  obtain ⟨hfire, hman, hroam⟩ := roamAndSleep_goesOn hph
  rw [hstep]
  exact ⟨_, exec_decodeT_accepted (s := r) hadm hfresh, fun h => congrArg _ (hfire h), fun h hm => congrArg _ (hman h hm),
    fun h hm => congrArg _ (hroam h hm)⟩

end Sys2Proof.Machine

/-! ## What a step is, for the statements about control (R249, R250) -/

namespace Sys2Proof.Machine

/-- The fields of a motor channel that CU alone writes: all but the pulse generator's (R33 to R38). -/
def Motor.drive (m : Motor) : Bool × Bool × Bool × Bool × Nat := (m.en, m.dir, m.run, m.divsel, m.settleT)

/-- The build, and what a character or a steering command sets: `MODE`, `STEER` and what drives the two channels. -/
def State.commanded (s : State) :=
  (s.cfg, s.mode, s.steer, s.left.drive, s.right.drive)

/-- The registers that CU alone writes but for the phase it is in: what is commanded, the debounce memory, the result and the
snapshot. -/
def State.controlRegs (s : State) :=
  (s.commanded, s.lastValid, s.lastChar, s.lastResult, s.snap, s.snapAt)

/-- `t` has the control registers, the fire and CU's phase of `s`, and every byte of its FIFO, in order. -/
structure KeepsControl (s t : State) : Prop where
  regs : t.controlRegs = s.controlRegs
  gun : t.gun = s.gun
  busy : t.fireBusy = s.fireBusy
  phase : t.cuPh = s.cuPh
  fifo : ∃ tail, t.rxq = s.rxq ++ tail

theorem KeepsControl.commanded {s t : State} (h : KeepsControl s t) : t.commanded = s.commanded := congrArg Prod.fst h.regs

theorem commanded_eq_iff (s t : State) : t.commanded = s.commanded ↔
    t.cfg = s.cfg ∧ t.mode = s.mode ∧ t.steer = s.steer ∧
      ∀ c, (t.motor c).en = (s.motor c).en ∧ (t.motor c).dir = (s.motor c).dir ∧ (t.motor c).run = (s.motor c).run ∧
        (t.motor c).divsel = (s.motor c).divsel ∧ (t.motor c).settleT = (s.motor c).settleT := by
  simp only [State.commanded, Motor.drive, Prod.mk.injEq]
  refine and_congr_right' (and_congr_right' (and_congr_right' ⟨?_, fun h => ⟨h .left, h .right⟩⟩))
  rintro ⟨hleft, hright⟩ (_ | _)
  · exact hleft
  · exact hright

theorem KeepsControl.trans {s r t : State} (h : KeepsControl s r) (h' : KeepsControl r t) : KeepsControl s t where
  regs := h'.regs.trans h.regs
  gun := h'.gun.trans h.gun
  busy := h'.busy.trans h.busy
  phase := h'.phase.trans h.phase
  fifo := by
    obtain ⟨u, hu⟩ := h.fifo
    obtain ⟨v, hv⟩ := h'.fifo
    exact ⟨u ++ v, by rw [hv, hu, List.append_assoc]⟩

/-- `t` is `s` but for the ports, the pulse timer, the trace, the overflow flag and the model's own fields. -/
def SameControl (s t : State) : Prop :=
  t = { t with
    cfg := s.cfg, left := s.left, right := s.right, gun := s.gun, fireBusy := s.fireBusy, mode := s.mode, steer := s.steer
    lastValid := s.lastValid, lastChar := s.lastChar, lastResult := s.lastResult, rxq := s.rxq, cuPh := s.cuPh
    snap := s.snap, snapAt := s.snapAt }

theorem SameControl.keeps {s t : State} (h : SameControl s t) : KeepsControl s t := by
  rw [h]
  exact ⟨rfl, rfl, rfl, rfl, fifo_kept rfl⟩

theorem SameBlock.sameControl {s r : State} (h : SameBlock s r) : SameControl s r := by
  rw [h]
  rfl

/-! ### The agents other than CU -/

theorem ptSample_keepsControl (s : State) (i : Us) : KeepsControl s (ptSample i s) := by
  rcases ptSample_cases s i with hq | ⟨h2, hq⟩ | ⟨h2, hq⟩
  · rw [ptSample_quiet hq]
    exact SameControl.keeps rfl
  · rw [ptSample_rise h2 hq]
    exact SameControl.keeps rfl
  · rw [ptSample_fall h2 hq]
    exact SameControl.keeps rfl

theorem ptTrigall_keepsControl (s : State) : KeepsControl s (ptTrigall s) := by
  rcases ptTrigall_cases s with ⟨-, e⟩ | ⟨k, t0, -, -, e⟩ | e <;> rw [e]
  · exact SameControl.keeps rfl
  · rcases trigAdvance_spec s k with ⟨-, e⟩ | ⟨j, -, e⟩ <;> rw [e] <;> exact SameControl.keeps rfl
  · exact SameControl.keeps rfl

theorem rxPush_keepsControl (s : State) (b : Byte) : KeepsControl s (s.rxPush b) := by
  rcases rxPush_spec s b with ⟨-, e⟩ | ⟨-, e⟩ <;> rw [e]
  · exact ⟨rfl, rfl, rfl, rfl, _, rfl⟩
  · exact SameControl.keeps rfl

theorem mdPgStep_keepsControl (s : State) (c : Channel) : KeepsControl s (mdPgStep c s) := by
  rcases mdPgStep_cases s c with ⟨-, -, e⟩ | ⟨t0, -, -, e⟩ | ⟨-, -, e⟩ <;> rw [e]
  · rw [pgLow_spec]
    cases c <;> exact ⟨rfl, rfl, rfl, rfl, fifo_kept rfl⟩
  · rw [pgHigh_spec]
    cases c <;> exact ⟨rfl, rfl, rfl, rfl, fifo_kept rfl⟩
  · exact SameControl.keeps rfl

/-! ### A step -/

/-- What a step of the block is to control: a move of CU or of the fire timer, a reset, or one that leaves control alone. -/
inductive ControlCase (s t : State) : Prop where
  | tick (r : State) (hr : SameBlock s r) (h : t = cuTick r)
  | stage (r : State) (hr : SameBlock s r) {c : Channel} {stage : PulseStage} {t0 : Nat} (hph : s.cuPh = .pulse c stage t0)
      (h : t = r.pulseNext c stage t0)
  | fireEnd (r : State) (hr : SameBlock s r) (h : t = mdFireEnd r)
  | reset (hdraws : t.draws = s.draws + 1) (hbusy : t.fireBusy = false)
  | other (h : KeepsControl s t)

theorem move_controlCase {s r t : State} (hr : SameBlock s r) (m : Move) (h : exec (moveInstr s m) r = .next t) :
    ControlCase s t := by
  have hsr : KeepsControl s r := hr.sameControl.keeps
  cases m with
  | tick =>
    obtain ⟨-, rfl⟩ := onBuild_next_iff.1 h
    exact .other (hsr.trans (SameControl.keeps rfl))
  | sample i =>
    obtain ⟨-, rfl⟩ := onBuild_next_iff.1 h
    exact .other (hsr.trans (ptSample_keepsControl r i))
  | trig =>
    obtain ⟨-, rfl⟩ := onBuild_next_iff.1 h
    exact .other (hsr.trans (ptTrigall_keepsControl r))
  | cu =>
    change exec (cuInstr s) r = .next t at h
    rcases cuInstr_cases s with e | ⟨c, stage, t0, dir, hph, e⟩ <;> rw [e] at h <;>
      obtain ⟨-, rfl⟩ := onBuild_next_iff.1 h
    · exact .tick r hr rfl
    · exact .stage r hr hph (mdPulse_next (hsr.phase.trans hph) c dir)
  | pg c =>
    obtain ⟨-, rfl⟩ := onBuild_next_iff.1 h
    exact .other (hsr.trans (mdPgStep_keepsControl r c))
  | fireEnd =>
    obtain ⟨-, rfl⟩ := onBuild_next_iff.1 h
    exact .fireEnd r hr rfl
  | rxPush b =>
    obtain ⟨-, rfl⟩ := onBuild_next_iff.1 h
    exact .other (hsr.trans (rxPush_keepsControl r b))
  | echo i level =>
    obtain ⟨-, rfl⟩ := onBuild_next_iff.1 h
    exact .other (hsr.trans (SameControl.keeps rfl))
  | reset =>
    obtain ⟨-, rfl⟩ := onBuild_next_iff.1 h
    exact .reset (by rw [hr]; rfl) rfl

theorem step_controlCase {s t : State} (hstep : step s = .next t) : ControlCase s t := by
  obtain ⟨-, hcase⟩ := step_cases hstep
  cases hcase with
  | moved m r hr hexec => exact move_controlCase hr m hexec
  | reading hin hexec =>
    obtain ⟨-, rfl⟩ := onBuild_next_iff.1 hexec
    exact .tick s rfl rfl
  | resetAtEdge hslot hrst hexec =>
    obtain ⟨-, rfl⟩ := onBuild_next_iff.1 hexec
    exact .reset rfl rfl
  | released hslot hrst hwas e =>
    rw [e, countTicks_spec]
    exact .other (SameControl.keeps rfl)
  | edge hslot hrst hwas e =>
    rw [e, countTicks_spec]
    exact .other (SameControl.keeps rfl)
  | idle e =>
    rw [e]
    exact .other (leaveSlot_same s).sameControl.keeps

end Sys2Proof.Machine

/-! ## A fire holds CU (R211) -/

namespace Sys2Proof.Machine

/-- While CU is firing, a step after which the fire is still busy leaves control alone. -/
theorem step_firing {s t : State} (hin : s.inTick = false) (hph : s.cuPh = .firing) (hstep : step s = .next t)
    (hbusy : t.fireBusy = true) : KeepsControl s t := by
  cases step_controlCase hstep with
  | tick r hr e =>
    have hin' : r.inTick = false := by rw [hr]; exact hin
    have hawake : cuAwake r = false := by simp [cuAwake, hr.sameControl.keeps.phase, hph]
    rw [e, cuTick_busy hin' hawake]
    exact hr.sameControl.keeps
  | stage r hr hpulse e => simp [hph] at hpulse
  | fireEnd r hr e =>
    rcases mdFireEnd_cases r with ⟨-, hend⟩ | ⟨-, hwait⟩
    · rw [e, hend] at hbusy
      cases hbusy
    · rw [e, hwait]
      exact hr.sameControl.keeps
  | reset hdraws hfree => simp [hfree] at hbusy
  | other h => exact h

/-- Settles O57: CU inside a roam step is ready, so a firing CU is in none, and `step_firing` says what such a step keeps. -/
theorem fireBlocksControl : Obligations.FireBlocksControl := by
  intro s t _ hsnap hph hstep hbusy
  have hin : s.inTick = false := by
    by_contra hne
    obtain ⟨hready, -, -⟩ := hsnap.2 (by simpa using hne)
    simp [hph] at hready
  obtain ⟨hregs, hgun, hfire, hphase, hfifo⟩ := step_firing hin hph hstep hbusy
  simp only [State.controlRegs, Prod.mk.injEq, commanded_eq_iff] at hregs
  obtain ⟨⟨-, hmode, hsteer, hmotors⟩, hvalid, hchar, hresult, -, hat⟩ := hregs
  refine ⟨hphase.trans hph, hfifo, hmode, hsteer, hresult, hvalid, hchar, hgun, hfire, hat, fun c => ?_⟩
  obtain ⟨hen, hdir, hrun, hdivsel, -⟩ := hmotors c
  exact ⟨hen, hrun, hdir, hdivsel⟩

end Sys2Proof.Machine

/-! ## An obstacle in Roam (R227) -/

namespace Sys2Proof.Machine

/-! ### The first roam step turns Right -/

/-- The reads of a roam step before its last, each of them one of `readsMade`. -/
theorem runOps_roamReads {s : State} (hadm : Admitted s) (hstart : s.snapAt = 0) {n : Nat} (hn : n ≤ 4) :
    runOps (List.replicate n .cuRoamstep) s = .next (readsMade s n) := by
  have hzero : s.snapAt.val = 0 := congrArg Fin.val hstart
  induction n with
  | zero => rw [readsMade_zero]; rfl
  | succ n ih =>
    have hadm' : Admitted (readsMade s n) := hadm
    have hat : (readsMade s n).snapAt.val = n := by
      rw [readsMade_snapAt (by omega), hzero, Nat.zero_add]
    have hmore : (readsMade s n).snapAt ≠ 4 := fun h => by
      rw [h] at hat
      change 4 = n at hat
      omega
    rw [List.replicate_succ', runOps_append (ih (by omega)), runOps_cons (exec_cuRoamstep hadm'), roamStep_more hmore,
      readNext_readsMade (by omega), readsMade, readsMade, if_neg (by omega), if_neg (by omega)]
    rfl

/-- A whole roam step from its first read, with nothing between its reads: the decision on `LRT` (R222). -/
theorem runOps_roamStep {s : State} (hadm : Admitted s) (hstart : s.snapAt = 0) :
    runOps (List.replicate 5 .cuRoamstep) s = .next (steerBy s.lrt { s with snap := s.lrt }) := by
  have hzero : s.snapAt.val = 0 := congrArg Fin.val hstart
  have hadm' : Admitted (readsMade s 4) := hadm
  have hat : (readsMade s 4).snapAt = 4 := Fin.ext (by rw [readsMade_snapAt (by omega), hzero]; rfl)
  have hread : readNext (readsMade s 4) = { s with snap := s.lrt } := by
    rw [readNext_readsMade (by omega), readsMade_all hstart, readsMade, if_neg (by omega)]
  rw [List.replicate_succ', runOps_append (runOps_roamReads hadm hstart le_rfl), runOps_cons (exec_cuRoamstep hadm'),
    roamStep_last hat, hread]
  rfl

/-! ### A tick that takes no byte -/

theorem dispatchA_rxq (f : FrameA) (s : State) : (dispatchA f s).rxq = s.rxq := by
  rcases dispatchA_cases f s with ⟨r, e⟩ | ⟨c, dir, e⟩ <;> rw [e]
  · rfl
  · rw [pulseBegin_spec]
    rfl

theorem dispatchB_rxq (f : FrameB) (s : State) : (dispatchB f s).rxq = s.rxq := by
  rcases dispatchB_cases f s with ⟨r, e⟩ | e | ⟨v, e⟩ | ⟨c, v, e⟩ <;> rw [e]
  · rfl
  · rw [stopAll_spec]
    rfl
  · rfl
  · rw [setVel_spec, hold_spec, run_spec]
    split <;> rfl

theorem dispatchT_rxq (ch : Byte) (s : State) : (dispatchT ch s).rxq = s.rxq := by
  rcases dispatchT_cases ch s with ⟨st, dl, dr, dv, e⟩ | ⟨-, e⟩ | ⟨-, e⟩ | e | e <;> rw [e]
  · rw [runBoth_spec]
    rfl
  · rfl
  · rw [fire_spec]
    rfl
  · rfl
  · rw [stopAll_spec]
    rfl

theorem tAccept_rxq (ch : Byte) (s : State) : (tAccept ch s).rxq = s.rxq := by
  rcases tAccept_cases ch s with ⟨-, e⟩ | ⟨-, e⟩ <;> rw [e]
  · rfl
  · exact dispatchT_rxq ch (acceptChar ch s)

/-- The framer takes bytes or does nothing (R120). -/
theorem sfFrame_takes (s : State) : sfFrame s = s ∨ (sfFrame s).rxq.length < s.rxq.length := by
  by_cases hlen : s.rxq.length < s.cfg.profile.nFrame
  · exact .inl (sfFrame_short hlen)
  · rcases sfFrame_cases s with e | ⟨hp, f, e⟩ | ⟨hp, f, e⟩
    · exact .inl e
    · rw [hp, Profile.nFrame] at hlen
      rw [e, dispatchA_rxq, State.rxDrop_rxq, List.length_drop]
      omega
    · rw [hp, Profile.nFrame] at hlen
      rw [e, dispatchB_rxq, State.rxDrop_rxq, List.length_drop]
      omega

/-- The first part of a profile T tick takes a byte or does nothing (R210). -/
theorem readChar_takes (s : State) : readChar s = s ∨ (readChar s).rxq.length < s.rxq.length := by
  rcases readChar_cases s with ⟨-, e⟩ | ⟨ch, rest, hq, e⟩
  · exact .inl e
  · rw [e, tAccept_rxq, hq]
    exact .inr (Nat.lt_succ_self _)

theorem endTick_rxq (s : State) : (endTick s).rxq = s.rxq := by
  rcases endTick_cases s with ⟨c, stage, t0, -, e⟩ | ⟨-, e⟩ <;> rw [e]

theorem roamAndSleep_rxq (s : State) : (roamAndSleep s).rxq = s.rxq := by
  rcases roamAndSleep_cases s with ⟨-, e⟩ | ⟨-, -, e⟩ | ⟨-, -, e⟩ <;> rw [e]
  exact endTick_rxq s

/-- A tick that takes no byte is its second part alone. -/
theorem tickBody_idle {s : State} (h : s.rxq.length ≤ (tickBody s).rxq.length) :
    tickBody s = endTick s ∨ tickBody s = roamAndSleep s := by
  by_cases hT : s.cfg.profile = .teleop
  · rw [tickBody_teleop hT] at h ⊢
    rw [roamAndSleep_rxq] at h
    rcases readChar_takes s with e | hlt
    · exact .inr (by rw [e])
    · omega
  · rw [tickBody_framed hT] at h ⊢
    rw [endTick_rxq] at h
    rcases sfFrame_takes s with e | hlt
    · exact .inl (by rw [e])
    · omega

/-! ### Right stays applied -/

/-- The roam step in progress has read the centre below the limit, if it has read it at all. -/
def CentreReadBelow (s : State) : Prop := 2 < s.snapAt.val → s.snap[center] < s.cfg.wallLimit

/-- Roam, with Right applied and the centre reading below the limit, in `LRT` and in the snapshot. -/
structure RightApplied (s : State) : Prop where
  roam : s.mode = .roam
  right : s.steer = .right
  below : s.lrt[center] < s.cfg.wallLimit
  read : CentreReadBelow s

/-- `t` commands what `s` does, and its roam step has not read the centre at the limit or above. -/
def KeepsCommand (s t : State) : Prop := t.commanded = s.commanded ∧ CentreReadBelow t

theorem endTick_keepsCommand {s : State} (h : CentreReadBelow s) : KeepsCommand s (endTick s) := by
  rcases endTick_cases s with ⟨c, stage, t0, -, e⟩ | ⟨-, e⟩ <;> rw [e] <;> exact ⟨rfl, h⟩

/-- A read of the centre finds it below the limit. -/
theorem readNext_below {s : State} (h : RightApplied s) : CentreReadBelow (readNext s) := by
  intro hat
  rw [readNext_snap]
  split
  · exact h.below
  · next hne =>
    refine h.read ?_
    have hne' : s.snapAt.val ≠ 2 := fun e => hne (Fin.ext e.symm)
    have hval : (s.snapAt + 1).val = (s.snapAt.val + 1) % 5 := Fin.val_add _ _
    change 2 < (s.snapAt + 1).val at hat
    omega

/-- A move inside a roam step: a read, or the last one, whose decision is Right again (R222). -/
theorem roamMove_keepsCommand {s : State} (h : RightApplied s) : KeepsCommand s (roamMove s) := by
  have hread := readNext_below h
  by_cases hlast : s.snapAt = 4
  · have hbelow : (readNext s).snap[center] < (readNext s).cfg.wallLimit := by
      rw [readNext_last_center hlast]
      exact h.read (by rw [hlast]; decide)
    rw [roamMove_last hlast, (steerBy_below hbelow).trans (if_pos h.right)]
    exact endTick_keepsCommand (s := { readNext s with inTick := false }) hread
  · rw [roamMove_more hlast]
    exact ⟨rfl, hread⟩

theorem roamAndSleep_keepsCommand {s : State} (h : RightApplied s) : KeepsCommand s (roamAndSleep s) := by
  rcases roamAndSleep_cases s with ⟨-, e⟩ | ⟨-, -, e⟩ | ⟨-, -, e⟩ <;> rw [e]
  · exact ⟨rfl, h.read⟩
  · exact ⟨rfl, fun hat => absurd (show (2 : Nat) < 1 from hat) (by decide)⟩
  · exact endTick_keepsCommand h.read

theorem cuTick_keepsCommand {s : State} (h : RightApplied s) (hfifo : s.rxq.length ≤ (cuTick s).rxq.length) :
    KeepsCommand s (cuTick s) := by
  rcases cuTick_cases s with ⟨-, e⟩ | ⟨-, -, e⟩ | ⟨-, -, e⟩ <;> rw [e] at hfifo ⊢
  · exact roamMove_keepsCommand h
  · have hready : RightApplied { s with cuPh := .ready } := ⟨h.roam, h.right, h.below, h.read⟩
    rcases tickBody_idle (s := { s with cuPh := .ready }) hfifo with e | e <;> rw [e]
    · exact endTick_keepsCommand hready.read
    · exact roamAndSleep_keepsCommand hready
  · exact ⟨rfl, h.read⟩

/-- A later stage of MD.PULSE writes the step output and CU's phase. -/
theorem pulseNext_keepsCommand {s : State} (h : CentreReadBelow s) (c : Channel) (stage : PulseStage) (t0 : Nat) :
    KeepsCommand s (s.pulseNext c stage t0) := by
  rw [pulseNext_spec]
  cases stage <;> dsimp only <;> split
  · exact ⟨by cases c <;> rfl, h⟩
  · exact ⟨rfl, h⟩
  · exact ⟨by cases c <;> rfl, h⟩
  · exact ⟨rfl, h⟩

theorem mdFireEnd_keepsCommand {s : State} (h : CentreReadBelow s) : KeepsCommand s (mdFireEnd s) := by
  rcases mdFireEnd_cases s with ⟨-, e⟩ | ⟨-, e⟩ <;> rw [e] <;> exact ⟨rfl, h⟩

theorem KeepsControl.keepsCommand {s t : State} (h : KeepsControl s t) (hs : CentreReadBelow s) : KeepsCommand s t := by
  have hregs := h.regs
  simp only [State.controlRegs, Prod.mk.injEq] at hregs
  obtain ⟨hcommand, -, -, -, hsnap, hat⟩ := hregs
  refine ⟨hcommand, ?_⟩
  have hcfg : t.cfg = s.cfg := congrArg Prod.fst hcommand
  rw [CentreReadBelow, hat, hsnap, hcfg]
  exact hs

theorem SameBlock.rightApplied {s r : State} (hr : SameBlock s r) (h : RightApplied s) : RightApplied r := by
  rw [hr]
  exact ⟨h.roam, h.right, h.below, h.read⟩

theorem KeepsCommand.ofSameBlock {s r t : State} (h : KeepsCommand r t) (hr : SameBlock s r) : KeepsCommand s t := by
  obtain ⟨hcommand, hread⟩ := h
  exact ⟨hcommand.trans hr.sameControl.keeps.commanded, hread⟩

/-- With Right applied, a step that is no reset and takes no byte commands nothing else. -/
theorem step_keepsCommand {s t : State} (h : RightApplied s) (hstep : step s = .next t) (hdraws : t.draws = s.draws)
    (hfifo : ∃ tail, t.rxq = s.rxq ++ tail) : KeepsCommand s t := by
  cases step_controlCase hstep with
  | tick r hr e =>
    have hlen : r.rxq.length ≤ (cuTick r).rxq.length := by
      obtain ⟨tail, htail⟩ := hfifo
      have hq : r.rxq = s.rxq := by rw [hr]
      rw [hq, ← e, htail, List.length_append]
      omega
    rw [e]
    exact (cuTick_keepsCommand (hr.rightApplied h) hlen).ofSameBlock hr
  | stage r hr hph e =>
    rw [e]
    exact (pulseNext_keepsCommand (hr.rightApplied h).read _ _ _).ofSameBlock hr
  | fireEnd r hr e =>
    rw [e]
    exact (mdFireEnd_keepsCommand (hr.rightApplied h).read).ofSameBlock hr
  | reset hnext hfree => omega
  | other hkeeps => exact hkeeps.keepsCommand h.read

/-- Settles O43: the first roam step by `runOps_roamStep` and `steerBy_below`, every later step by `step_keepsCommand`. -/
theorem obstacleAppliesRightExactlyOnce : Obligations.ObstacleAppliesRightExactlyOnce := by
  refine ⟨fun s hadm _ hforward hstart hbelow => ?_, fun s t hroam hright hbelow hread hstep hdraws hfifo => ?_⟩
  · have hsteer : s.steer ≠ .right := by simp [hforward]
    rw [runOps_roamStep hadm hstart, steerBy_below (s := { s with snap := s.lrt }) hbelow, if_neg hsteer]
    rfl
  · obtain ⟨hcommand, hread'⟩ := step_keepsCommand ⟨hroam, hright, hbelow, hread⟩ hstep hdraws hfifo
    obtain ⟨hcfg, hmode, hsteer, hmotors⟩ := (commanded_eq_iff s t).1 hcommand
    exact ⟨hmode.trans hroam, hsteer.trans hright, hcfg, hread', hmotors⟩

end Sys2Proof.Machine

/-! ## A time condition (R10, R254) -/

namespace Sys2Proof.Machine

/-- Settles O60: the timed comparison is with `timeSub`, the remainder `timeSub_eq_emod` gives; the untimed one is dropped. -/
theorem waitComparesModularDifference : Obligations.WaitComparesModularDifference := by
  intro s t0 d
  refine ⟨fun htimed => ?_, fun huntimed => passed_untimed huntimed t0 d⟩
  rw [passed_timed htimed, decide_eq_true_iff, ← timeSub_eq_emod, Nat.cast_le]

end Sys2Proof.Machine

/-! ## The frames that only record a result (R241, R242, R245) -/

namespace Sys2Proof.Machine

theorem exec_sfFrame {s : State} (hadm : Admitted s) : exec .sfFrame s = .next (sfFrame s) := onBuild_admitted hadm _

/-- DISPATCH_A on the bytes of the frame (R92, R122). -/
theorem dispatchA_frameA (cmd p t : Byte) (s : State) : dispatchA (frameA cmd p t) s =
    if s.cfg.laCheckTerm = true ∧ t ≠ 0x0A then s.raise .invalidFraming
    else if cmd = 0x00 ∨ cmd = 0x01 then s.raise .stub
    else if cmd = 0x02 then (s.raise .ok).pulseBegin .left (dirOfParam p)
    else if cmd = 0x03 then (s.raise .ok).pulseBegin .right (dirOfParam p)
    else s.raise .unknownCommand := by
  have hterm : (s.cfg.laCheckTerm && t != term) = true ↔ s.cfg.laCheckTerm = true ∧ t ≠ 0x0A := by simp
  simp only [dispatchA, faCmd_frameA, faParam_frameA, faTerm_frameA, hterm, ite_or]
  rfl

/-- DISPATCH_B on the bytes of the frame (R93, R123). -/
theorem dispatchB_frameB (cmd u0 u1 t : Byte) (s : State) : dispatchB (frameB cmd u0 u1 t) s =
    if t ≠ 0x0A then s.raise .invalidFraming
    else if cmd = 0x00 then lbStopall s
    else if cmd = 0x01 then lbGun (assembleUnits s.cfg.unitsLE u0 u1) s
    else if cmd = 0x02 then lbSetl (assembleUnits s.cfg.unitsLE u0 u1) s
    else if cmd = 0x03 then lbSetr (assembleUnits s.cfg.unitsLE u0 u1) s
    else s.raise .unknownCommand := by
  simp only [dispatchB, fbCmd_frameB, fbTerm_frameB, fbUnits, fbU0_frameB, fbU1_frameB]
  rfl

/-- Settles O9: a bad terminator is the dispatchers' first test; where profile A does not make it, each of the other branches
records another result. -/
theorem invalidFramingConsumesAndRecords : Obligations.InvalidFramingConsumesAndRecords := by
  intro s rest b0 b1 b2 b3 hadm
  rw [exec_sfFrame hadm]
  refine ⟨fun hB hq hterm => ?_, fun hA hq => ⟨fun hcheck hterm => ?_, fun hcheck => ⟨_, rfl, ?_⟩⟩⟩
  · rw [sfFrame_layoutB hB hq, dispatchB_frameB, if_pos hterm]
    rfl
  · rw [sfFrame_layoutA hA hq, dispatchA_frameA, if_pos ⟨hcheck, hterm⟩]
    rfl
  · rw [sfFrame_layoutA hA hq, dispatchA_frameA, if_neg (by simp [hcheck])]
    split_ifs <;> simp [pulseBegin_spec, State.raise]

/-- Settles O10: a terminator that passes and a command id no row names lead to the dispatchers' last branch. -/
theorem unknownCommandConsumesAndRecords : Obligations.UnknownCommandConsumesAndRecords := by
  intro s rest b0 b1 b2 hadm hcmd
  rw [exec_sfFrame hadm]
  obtain ⟨h0, h1, h2, h3⟩ := (four_le_toNat_iff b0).1 hcmd
  refine ⟨fun hB hq => ?_, fun hA hq hterm => ?_⟩
  · rw [sfFrame_layoutB hB hq, dispatchB_frameB, if_neg (not_not_intro rfl), if_neg h0, if_neg h1, if_neg h2, if_neg h3]
    rfl
  · rw [sfFrame_layoutA hA hq, dispatchA_frameA, if_neg (fun h => h.2 (hterm h.1)), if_neg (not_or.2 ⟨h0, h1⟩), if_neg h2,
      if_neg h3]
    rfl

/-- Settles O11: past the terminator test, the command ids 0 and 1 both record STUB. -/
theorem stubConsumesAndRecords : Obligations.StubConsumesAndRecords := by
  intro s rest b0 b1 b2 hadm hcmd hA hq hterm
  rw [exec_sfFrame hadm, sfFrame_layoutA hA hq, dispatchA_frameA, if_neg (fun h => h.2 (hterm h.1)), if_pos hcmd]
  rfl

end Sys2Proof.Machine

/-! ## Every step is one move (R249, R250) -/

namespace Sys2Proof.Machine

/-- In the untimed model the schedule's next entry moves, on the state with `RST` released. -/
theorem step_scheduled {s : State} (hadm : Admitted s) (huntimed : s.cfg.timing = .untimed) {m : Move} {rest : List Move}
    (hsched : s.schedule = m :: rest) : step s = exec (moveInstr s m) { released s with schedule := rest } := by
  rw [step, onBuild_admitted hadm, turn, huntimed, hsched, ← release_spec]

/-- A place of the clock that makes a move. -/
theorem step_place {s : State} (hadm : Admitted s) (hwho : s.cfg.timing = .timed ∨ s.schedule = []) (hin : s.inTick = false)
    {place : Slot} (hslot : s.slot = place) {m : Move} (hmove : slotMove s place = some m) :
    step s = exec (moveInstr s m) (leaveSlot s) := by
  rw [step_eq_slotTurn hadm hwho, slotTurn, if_neg (by simp [hin]), hslot]
  split
  · cases hmove
  · rw [hmove]

/-- A place of the clock past the edge that makes none. -/
theorem step_place_idle {s : State} (hadm : Admitted s) (hwho : s.cfg.timing = .timed ∨ s.schedule = [])
    (hin : s.inTick = false) {place : Slot} (hslot : s.slot = place) (hplace : place ≠ .edge)
    (hmove : slotMove s place = none) : step s = .next (leaveSlot s) := by
  rw [step_eq_slotTurn hadm hwho, slotTurn, if_neg (by simp [hin]), hslot]
  split
  · exact absurd rfl hplace
  · rw [hmove]

/-- A place of the clock other than the timebase's passes the turn on to the next one. -/
theorem leaveSlot_next {s : State} {place : Slot} (hslot : s.slot = place) (hplace : place ≠ .tick) :
    leaveSlot s = { s with slot := place.next } := by
  unfold leaveSlot
  split
  · next htick => exact absurd (hslot.symm.trans htick) hplace
  · rw [hslot]

/-- The timebase passes the turn on with the last `TICK` due. -/
theorem leaveSlot_lastTick {s : State} (hslot : s.slot = .tick) (hdue : s.ticksDue ≤ 1) :
    leaveSlot s = { s with ticksDue := 0, slot := .trig } := by
  simp [leaveSlot, hslot, hdue]

/-- While more than one `TICK` is due the timebase keeps its place. -/
theorem leaveSlot_moreTicks {s : State} (hslot : s.slot = .tick) (hdue : 2 ≤ s.ticksDue) :
    leaveSlot s = { s with ticksDue := s.ticksDue - 1 } := by
  simp [leaveSlot, hslot, Nat.not_le.2 hdue]

theorem slot_next_sample {k : Us} (hk : k ≠ 4) : (Slot.sample k).next = .sample (k + 1) := by
  revert k
  decide

theorem cuInstr_notPulsing {s : State} (h : NotPulsing s) : cuInstr s = .cuTick := by
  rcases cuInstr_cases s with e | ⟨c, stage, t0, dir, hph, -⟩
  · exact e
  · simp [NotPulsing, hph] at h

theorem cuInstr_pulse {s : State} {c : Channel} {stage : PulseStage} {t0 : Nat} (h : s.cuPh = .pulse c stage t0) :
    cuInstr s = .mdPulse c (s.motor c).dir := by
  simp [cuInstr, h]

/-- Settles O51: a scheduled move by `step_scheduled`, CU inside a roam step by `slotTurn`'s first test, a place of the clock by
`step_place` or `step_place_idle` with what `leaveSlot` leaves of it. -/
theorem eachTurnIsOneMove : Obligations.EachTurnIsOneMove := by
  refine ⟨?schedule, ?reading, ?clock⟩
  case schedule =>
    intro s m rest hadm huntimed hsched r
    have hperform {i : Instr} (hi : moveInstr s m = i) : step s = exec i r := by
      rw [step_scheduled hadm huntimed hsched, hi]
    exact ⟨fun hm => hperform (congrArg _ hm), fun _ hm => hperform (congrArg _ hm), fun hm => hperform (congrArg _ hm),
      fun _ hm => hperform (congrArg _ hm), fun hm => hperform (congrArg _ hm), fun _ hm => hperform (congrArg _ hm),
      fun _ _ hm => hperform (congrArg _ hm), fun hm => hperform (congrArg _ hm),
      fun hm hph => hperform ((congrArg _ hm).trans (cuInstr_notPulsing hph)),
      fun _ _ _ hm hph => hperform ((congrArg _ hm).trans (cuInstr_pulse hph))⟩
  case reading =>
    intro s hadm hwho hin
    rw [step_eq_slotTurn hadm hwho, slotTurn, if_pos hin]
  case clock =>
    intro s hadm hwho hin
    have hplace {place : Slot} {m : Move} {i : Instr} (hslot : s.slot = place) (htick : place ≠ .tick)
        (hmove : slotMove s place = some m) (hi : moveInstr s m = i) : step s = exec i { s with slot := place.next } := by
      rw [step_place hadm hwho hin hslot hmove, hi, leaveSlot_next hslot htick]
    have htick {u : State} (hslot : s.slot = .tick) (hdue : s.ticksDue ≠ 0) (hleave : leaveSlot s = u) :
        step s = exec .ptTick u := by
      rw [step_place hadm hwho hin hslot (if_neg hdue), hleave]
      rfl
    refine ⟨fun hslot => ?rx, fun k hslot hk => ?sample, fun hslot => hplace hslot nofun rfl rfl, fun hslot hdue => ?noTick,
      fun hslot hdue => htick hslot (by omega) (leaveSlot_lastTick hslot hdue.le),
      fun hslot hdue => htick hslot (by omega) (leaveSlot_moreTicks hslot hdue),
      fun hslot => hplace hslot nofun rfl rfl, fun hslot => hplace hslot nofun rfl rfl,
      fun hslot => hplace hslot nofun rfl rfl, fun hslot => hplace hslot nofun rfl rfl,
      fun hslot hph => hplace hslot nofun rfl (cuInstr_notPulsing hph),
      fun c stage t0 hslot hph => hplace hslot nofun rfl (cuInstr_pulse hph)⟩
    case rx =>
      split
      · next hvalid => exact hplace hslot nofun (if_pos hvalid) rfl
      · next hvalid =>
        rw [step_place_idle hadm hwho hin hslot nofun (if_neg hvalid), leaveSlot_next hslot nofun]
        rfl
    case sample =>
      rw [← slot_next_sample hk]
      exact hplace hslot nofun rfl rfl
    case noTick =>
      rw [step_place_idle hadm hwho hin hslot nofun (if_pos hdue), leaveSlot_lastTick hslot (by omega), ← hdue]

end Sys2Proof.Machine

/-! ## No step stops (R247) -/

namespace Sys2Proof.Machine

/-- No write reaches the build (R51). -/
theorem Writes.cfg {s t : State} (h : Writes s t) : t.cfg = s.cfg := by
  induction h with
  | refl => rfl
  | tail _ w ih =>
    rw [← ih]
    cases w with
    | quiet hports => rw [hports]
    | en c v => rfl
    | dir c v => rfl
    | step c v => rfl
    | gun v => rfl
    | trig k v => rfl
    | motor c m => rfl

/-- No operation writes the build (R51). -/
theorem exec_cfg {i : Instr} {s t : State} (h : exec i s = .next t) : t.cfg = s.cfg := by
  rcases exec_writes h with w | rfl | ⟨k, rfl | rfl | rfl⟩
  · exact w.cfg
  · obtain ⟨-, rfl⟩ := onBuild_next_iff.1 h
    rfl
  · obtain ⟨-, rfl⟩ := onBuild_next_iff.1 h
    rw [ptSample_samePorts s k]
  · obtain ⟨-, rfl⟩ := onBuild_next_iff.1 h
    rfl
  · obtain ⟨-, rfl⟩ := onBuild_next_iff.1 h
    rfl

/-- In an admitted build every operation but MD.FIRE goes on (R157, R251). -/
theorem exec_answers {i : Instr} {s : State} (hadm : Admitted s) (hi : i ≠ .mdFire) : ∃ t, exec i s = .next t := by
  cases i with
  | mdFire => exact absurd rfl hi
  | _ => exact ⟨_, onBuild_admitted hadm _⟩

/-- No agent's move is MD.FIRE: CU begins a fire inside a tick, through T.F, which tests `FIRE_BUSY` (R164, R218). -/
theorem moveInstr_ne_mdFire (s : State) (m : Move) : moveInstr s m ≠ .mdFire := by
  cases m with
  | cu =>
    change cuInstr s ≠ .mdFire
    rcases cuInstr_cases s with e | ⟨c, stage, t0, dir, -, e⟩ <;> rw [e] <;> nofun
  | _ => nofun

theorem edgeTurn_answers {s : State} (hadm : Admitted s) : ∃ t, edgeTurn s = .next t := by
  unfold edgeTurn
  split
  · exact exec_answers (s := atEdge s) hadm nofun
  · split
    · exact ⟨_, rfl⟩
    · exact ⟨_, rfl⟩

theorem leaveSlot_admitted {s : State} (hadm : Admitted s) : Admitted (leaveSlot s) := by
  rw [Admitted, leaveSlot_same s]
  exact hadm

theorem slotTurn_answers {s : State} (hadm : Admitted s) : ∃ t, slotTurn s = .next t := by
  unfold slotTurn
  split
  · exact exec_answers hadm nofun
  · split
    · exact edgeTurn_answers hadm
    · split
      · next m _ => exact exec_answers (leaveSlot_admitted hadm) (moveInstr_ne_mdFire s m)
      · exact ⟨_, rfl⟩

theorem step_answers {s : State} (hadm : Admitted s) : ∃ t, step s = .next t := by
  rw [step, onBuild_admitted hadm, turn]
  split
  · next m rest _ _ =>
    exact exec_answers (s := { s.release with schedule := rest }) (by rw [release_spec]; exact hadm) (moveInstr_ne_mdFire s m)
  · exact slotTurn_answers hadm
  · exact slotTurn_answers hadm

/-- No step changes the build (R51). -/
theorem step_cfg {s t : State} (h : step s = .next t) : t.cfg = s.cfg := by
  obtain ⟨-, hcase⟩ := step_cases h
  cases hcase with
  | moved m r hr hexec => rw [exec_cfg hexec, hr]
  | reading hin hexec => exact exec_cfg hexec
  | resetAtEdge hslot hrst hexec => exact (exec_cfg hexec).trans rfl
  | released hslot hrst hwas e =>
    rw [e, countTicks_spec]
    rfl
  | edge hslot hrst hwas e =>
    rw [e, countTicks_spec]
    rfl
  | idle e => rw [e, leaveSlot_same s]

/-- Settles O55: MD.FIRE is the one operation that can stop, no move is it (`step_answers`), and no operation writes the build. -/
theorem noStepEverStops : Obligations.NoStepEverStops := by
  intro s hadm
  obtain ⟨t, hstep⟩ := step_answers hadm
  exact ⟨t, hstep, step_cfg hstep⟩

end Sys2Proof.Machine

/-! ## An untimed fire ends (R158, R259) -/

namespace Sys2Proof.Machine

/-- A fire is in progress in the untimed model, with no schedule and no input left (R47, R157). -/
structure FirePending (s : State) : Prop where
  admitted : Admitted s
  untimed : s.cfg.timing = .untimed
  schedule : s.schedule = []
  inputs : s.inputs = []
  busy : s.fireBusy = true
  phase : s.cuPh = .firing
  noRoam : s.inTick = false

/-- What the order of the turns and a fire in progress rest on. -/
def State.turnFields (s : State) :=
  (s.cfg, s.schedule, s.inputs, s.fireBusy, s.cuPh, s.inTick, s.slot, s.ticksDue)

theorem turnFields_eq_iff (s t : State) : t.turnFields = s.turnFields ↔
    t.cfg = s.cfg ∧ t.schedule = s.schedule ∧ t.inputs = s.inputs ∧ t.fireBusy = s.fireBusy ∧ t.cuPh = s.cuPh ∧
      t.inTick = s.inTick ∧ t.slot = s.slot ∧ t.ticksDue = s.ticksDue := by
  simp only [State.turnFields, Prod.mk.injEq]

theorem FirePending.of_turnFields {s t : State} (h : FirePending s) (ht : t.turnFields = s.turnFields) : FirePending t := by
  obtain ⟨hcfg, hsched, hinputs, hbusy, hph, hin, -, -⟩ := (turnFields_eq_iff s t).1 ht
  exact ⟨by rw [Admitted, hcfg]; exact h.admitted, by rw [hcfg]; exact h.untimed, hsched.trans h.schedule,
    hinputs.trans h.inputs, hbusy.trans h.busy, hph.trans h.phase, hin.trans h.noRoam⟩

theorem FirePending.passTurn {s : State} (h : FirePending s) : FirePending (leaveSlot s) := by
  have hleave : leaveSlot s = { s with slot := (leaveSlot s).slot, ticksDue := (leaveSlot s).ticksDue } := by
    unfold leaveSlot
    split
    · split <;> rfl
    · rfl
  rw [hleave]
  exact { h with }

/-! ### The agents that move between CU and the fire timer write none of these fields -/

theorem ptSample_turnFields (s : State) (i : Us) : (ptSample i s).turnFields = s.turnFields := by
  rcases ptSample_cases s i with hq | ⟨h2, hq⟩ | ⟨h2, hq⟩
  · rw [ptSample_quiet hq]
    rfl
  · rw [ptSample_rise h2 hq]
    rfl
  · rw [ptSample_fall h2 hq]
    rfl

theorem ptTrigall_turnFields (s : State) : (ptTrigall s).turnFields = s.turnFields := by
  rcases ptTrigall_cases s with ⟨-, e⟩ | ⟨k, t0, -, -, e⟩ | e <;> rw [e]
  · rfl
  · rcases trigAdvance_spec s k with ⟨-, e⟩ | ⟨j, -, e⟩ <;> rw [e] <;> rfl

theorem mdPgStep_turnFields (s : State) (c : Channel) : (mdPgStep c s).turnFields = s.turnFields := by
  rcases mdPgStep_cases s c with ⟨-, -, e⟩ | ⟨t0, -, -, e⟩ | ⟨-, -, e⟩ <;> rw [e] <;> rfl

theorem rxPush_turnFields (s : State) (b : Byte) : (s.rxPush b).turnFields = s.turnFields := by
  rcases rxPush_spec s b with ⟨-, e⟩ | ⟨-, e⟩ <;> rw [e] <;> rfl

theorem cuTick_firing {s : State} (hin : s.inTick = false) (hph : s.cuPh = .firing) : cuTick s = s :=
  cuTick_busy hin (by simp [cuAwake, hph])

/-! ### A place of the clock during a fire -/

/-- During a fire a place between the edge and the fire timer's, or CU's, only passes the turn on. -/
theorem FirePending.place_keeps {s : State} (h : FirePending s) (hedge : s.slot ≠ .edge) (hfire : s.slot ≠ .fire) :
    ∃ t, step s = .next t ∧ t.turnFields = (leaveSlot s).turnFields := by
  have hleft : FirePending (leaveSlot s) := h.passTurn
  have hmoved {place : Slot} {m : Move} {u : State} (hslot : s.slot = place) (hmove : slotMove s place = some m)
      (hexec : exec (moveInstr s m) (leaveSlot s) = .next u)
      (hkeep : u.turnFields = (leaveSlot s).turnFields) :
      ∃ t, step s = .next t ∧ t.turnFields = (leaveSlot s).turnFields :=
    ⟨_, (step_place h.admitted (.inr h.schedule) h.noRoam hslot hmove).trans hexec, hkeep⟩
  have hidle {place : Slot} (hslot : s.slot = place) (hmove : slotMove s place = none) :
      ∃ t, step s = .next t ∧ t.turnFields = (leaveSlot s).turnFields :=
    ⟨_, step_place_idle h.admitted (.inr h.schedule) h.noRoam hslot (hslot ▸ hedge) hmove, rfl⟩
  cases hslot : s.slot with
  | edge => exact absurd hslot hedge
  | rx =>
    by_cases hvalid : s.ports.rxValid = true
    · exact hmoved hslot (if_pos hvalid) (onBuild_admitted hleft.admitted _) (rxPush_turnFields _ _)
    · exact hidle hslot (if_neg hvalid)
  | sample i => exact hmoved hslot rfl (exec_ptSample hleft.admitted i) (ptSample_turnFields _ i)
  | tick =>
    by_cases hdue : s.ticksDue = 0
    · exact hidle hslot (if_pos hdue)
    · exact hmoved hslot (if_neg hdue) (exec_ptTick hleft.admitted) rfl
  | trig => exact hmoved hslot rfl (exec_ptTrigall hleft.admitted) (ptTrigall_turnFields _)
  | pg c => exact hmoved hslot rfl (onBuild_admitted hleft.admitted _) (mdPgStep_turnFields _ c)
  | fire => exact absurd hslot hfire
  | cu =>
    have hinstr : moveInstr s .cu = .cuTick := cuInstr_notPulsing (by simp [NotPulsing, h.phase])
    refine hmoved hslot rfl (by rw [hinstr, exec_cuTick hleft.admitted]) ?_
    rw [cuTick_firing hleft.noRoam hleft.phase]

/-- With no input left an untimed `CLK` edge is quiet: it counts one `TICK` and passes the turn on. -/
theorem FirePending.edge_keeps {s : State} (h : FirePending s) (hslot : s.slot = .edge) :
    ∃ t, step s = .next t ∧ t.turnFields = ({ s with slot := .rx, ticksDue := 1 } : State).turnFields := by
  have hquiet : (nextPorts s).rst = false := by simp [nextPorts, h.inputs]
  have htail : s.inputs.tail = s.inputs := by simp [h.inputs]
  rw [step_eq_slotTurn h.admitted (.inr h.schedule), slotTurn, if_neg (by simp [h.noRoam]), hslot]
  simp only [edgeTurn, hquiet, Bool.false_eq_true, if_false]
  split <;> refine ⟨_, rfl, ?_⟩ <;> simp [State.turnFields, countTicks, atEdge, State.loadSync, h.untimed, htail]

/-- The fire timer's place ends an untimed fire (R158, R259). -/
theorem FirePending.fire_ends {s : State} (h : FirePending s) (hslot : s.slot = .fire) :
    ∃ t, step s = .next t ∧ t.fireBusy = false := by
  have hleft : FirePending (leaveSlot s) := h.passTurn
  have henabled : fireEndEnabled (leaveSlot s) = true :=
    (fireEndEnabled_iff _).2 ⟨hleft.busy, passed_untimed hleft.untimed _ _⟩
  refine ⟨mdFireEnd (leaveSlot s), ?_, ?_⟩
  · rw [step_place h.admitted (.inr h.schedule) h.noRoam hslot rfl]
    exact onBuild_admitted hleft.admitted _
  · rw [mdFireEnd, if_pos henabled]

/-! ### How many turns there are to the fire timer's -/

/-- The steps a quiet untimed clock takes from a place until the fire timer has moved: one a place, but the timebase takes one
for each `TICK` due. -/
def stepsToFireEnd (s : State) : Nat :=
  match s.slot with
  | .cu => 13
  | .edge => 12
  | .rx => 10 + max 1 s.ticksDue
  | .sample i => 9 - i.val + max 1 s.ticksDue
  | .tick => 4 + max 1 s.ticksDue
  | .trig => 4
  | .pg .left => 3
  | .pg .right => 2
  | .fire => 1

theorem stepsToFireEnd_pos (s : State) : 0 < stepsToFireEnd s := by
  unfold stepsToFireEnd
  split <;> omega

theorem stepsToFireEnd_le (s : State) : stepsToFireEnd s ≤ 13 + s.ticksDue := by
  unfold stepsToFireEnd
  split <;> omega

theorem stepsToFireEnd_of_turnFields {s t : State} (h : t.turnFields = s.turnFields) :
    stepsToFireEnd t = stepsToFireEnd s := by
  obtain ⟨-, -, -, -, -, -, hslot, hdue⟩ := (turnFields_eq_iff s t).1 h
  rw [stepsToFireEnd, stepsToFireEnd, hslot, hdue]

theorem stepsToFireEnd_leaveSlot {s : State} (hedge : s.slot ≠ .edge) (hfire : s.slot ≠ .fire) :
    stepsToFireEnd (leaveSlot s) < stepsToFireEnd s := by
  cases hslot : s.slot with
  | edge => exact absurd hslot hedge
  | rx =>
    rw [leaveSlot_next hslot nofun]
    simp only [stepsToFireEnd, hslot, Slot.next]
    omega
  | sample i =>
    rw [leaveSlot_next hslot nofun]
    by_cases hlast : i = 4
    · simp [stepsToFireEnd, hslot, hlast, Slot.next]
    · have hnext : ∀ j : Us, j ≠ 4 → (j + 1).val = j.val + 1 := by decide
      simp only [stepsToFireEnd, hslot, slot_next_sample hlast, hnext i hlast]
      omega
  | tick =>
    by_cases hdue : s.ticksDue ≤ 1
    · rw [leaveSlot_lastTick hslot hdue]
      simp only [stepsToFireEnd, hslot]
      omega
    · rw [leaveSlot_moreTicks hslot (by omega)]
      simp only [stepsToFireEnd, hslot]
      omega
  | trig =>
    rw [leaveSlot_next hslot nofun]
    simp [stepsToFireEnd, hslot, Slot.next]
  | pg c =>
    rw [leaveSlot_next hslot nofun]
    cases c <;> simp [stepsToFireEnd, hslot, Slot.next]
  | fire => exact absurd hslot hfire
  | cu =>
    rw [leaveSlot_next hslot nofun]
    simp [stepsToFireEnd, hslot, Slot.next]

/-- Away from the fire timer's place a step keeps the fire and comes nearer to that place. -/
theorem FirePending.step_nearer {s : State} (h : FirePending s) (hfire : s.slot ≠ .fire) :
    ∃ t, step s = .next t ∧ FirePending t ∧ stepsToFireEnd t < stepsToFireEnd s := by
  by_cases hedge : s.slot = .edge
  · obtain ⟨t, hstep, ht⟩ := h.edge_keeps hedge
    have hnext : FirePending { s with slot := .rx, ticksDue := 1 } := { h with }
    refine ⟨t, hstep, hnext.of_turnFields ht, ?_⟩
    rw [stepsToFireEnd_of_turnFields ht]
    simp [stepsToFireEnd, hedge]
  · obtain ⟨t, hstep, ht⟩ := h.place_keeps hedge hfire
    refine ⟨t, hstep, h.passTurn.of_turnFields ht, ?_⟩
    rw [stepsToFireEnd_of_turnFields ht]
    exact stepsToFireEnd_leaveSlot hedge hfire

theorem run_succ_of_step {s t : State} (h : step s = .next t) (k : Nat) :
    Sys2Proof.core.run (k + 1) s = Sys2Proof.core.run k t := by
  have hcore : Sys2Proof.core.step s = .next t := h
  simp only [Host.Core.run, hcore]

/-- A pending fire is over within as many steps as there are to the end of the fire timer's turn. -/
theorem FirePending.ends {n : Nat} : ∀ {s : State}, FirePending s → stepsToFireEnd s ≤ n →
    ∃ k t, k ≤ n ∧ Sys2Proof.core.run k s = .next t ∧ t.fireBusy = false := by
  induction n with
  | zero => exact fun _ hn => absurd (stepsToFireEnd_pos _) (Nat.not_lt.2 hn)
  | succ n ih =>
    intro s h hn
    by_cases hfire : s.slot = .fire
    · obtain ⟨t, hstep, hfree⟩ := h.fire_ends hfire
      exact ⟨1, t, by omega, run_succ_of_step hstep 0, hfree⟩
    · obtain ⟨u, hstep, hu, hless⟩ := h.step_nearer hfire
      obtain ⟨k, t, hk, hrun, hfree⟩ := ih hu (by omega)
      exact ⟨k + 1, t, by omega, (run_succ_of_step hstep k).trans hrun, hfree⟩

/-- Settles O59: the invariant makes a busy fire a `FirePending` state, and from any place the fire timer's is at most
`stepsToFireEnd` steps away. -/
theorem untimedFireEnds : Obligations.UntimedFireEnds := by
  intro s hadm hinv huntimed hsched hinputs hbusy
  have hph : s.cuPh = .firing := hinv.firing_of_busy hbusy
  have hpending : FirePending s := ⟨hadm, huntimed, hsched, hinputs, hbusy, hph, hinv.notInTick (by simp [hph])⟩
  exact hpending.ends (stepsToFireEnd_le s)

end Sys2Proof.Machine

/-! ## The `CLK` edge (R249 item 1, R270) -/

namespace Sys2Proof.Machine

/-- The two fields a clock's count of `TICK`s writes, in both models. -/
theorem countTicks_eq (s : State) : countTicks s = { s with
    ticksDue := if s.cfg.timing = .timed then clockPhase s / s.cfg.fClk else 1
    tickPhase := if s.cfg.timing = .timed then clockPhase s % s.cfg.fClk else s.tickPhase } := by
  unfold countTicks
  split
  · next htimed => simp only [htimed, if_true]
  · next huntimed => simp [huntimed]

/-- The environment's next entry is what the edge reads. -/
theorem atEdge_cons {s : State} {p : Ports} {rest : List Ports} (h : s.inputs = p :: rest) :
    atEdge s = { s with ports := p, inputs := rest } := by
  simp [atEdge, nextPorts, h]

theorem step_edge {s : State} (hadm : Admitted s) (hwho : s.cfg.timing = .timed ∨ s.schedule = []) (hin : s.inTick = false)
    (hslot : s.slot = .edge) : step s = edgeTurn s := by
  rw [step_eq_slotTurn hadm hwho, slotTurn, if_neg (by simp [hin]), hslot]

theorem edgeTurn_inReset {s : State} (hrst : (nextPorts s).rst = true) : edgeTurn s = exec .rst (atEdge s) := if_pos hrst

theorem edgeTurn_released {s : State} (hrst : (nextPorts s).rst = false) (hwas : s.ports.rst = true) :
    edgeTurn s = .next { countTicks (atEdge s).loadSync with slot := .rx } := by
  rw [edgeTurn, if_neg (by simp [hrst]), if_pos hwas]

theorem edgeTurn_running {s : State} (hrst : (nextPorts s).rst = false) (hwas : s.ports.rst = false) :
    edgeTurn s = .next { countTicks (atEdge s) with slot := .rx } := by
  rw [edgeTurn, if_neg (by simp [hrst]), if_neg (by simp [hwas])]

/-- Settles O47: the step is the edge's turn, one equation for each of its three branches; the reset keeps the place and empties
the FIFO, and the other two write what `countTicks_eq` says. -/
theorem resetClockDoesNothingElse : Obligations.ResetClockDoesNothingElse := by
  intro s p rest hadm hslot hin hwho hinputs phase u
  have hnext : nextPorts s = p := by rw [nextPorts, hinputs]
  have hedge : atEdge s = { s with ports := p, inputs := rest } := atEdge_cons hinputs
  rw [step_edge hadm hwho hin hslot]
  refine ⟨fun hrst => ?inReset, fun hrst hwas => ?released, fun hrst hwas => ?running⟩
  case inReset =>
    have hreset : exec .rst (atEdge s) = .next (atEdge s).resetClock := onBuild_admitted hadm _
    rw [edgeTurn_inReset (by rw [hnext, hrst]), ← hedge]
    exact ⟨_, hreset, hreset, hslot, rfl⟩
  case released =>
    rw [edgeTurn_released (by rw [hnext, hrst]) hwas, countTicks_eq, hedge]
    rfl
  case running =>
    rw [edgeTurn_running (by rw [hnext, hrst]) hwas, countTicks_eq, hedge]
    rfl

end Sys2Proof.Machine
